-- ==== Sys2Proof/Word.lean ====
section
/-! DEFINITION. The bit-vector types of what crosses the links: a byte of a frame and the 16-bit CRC register. -/

namespace Sys2Proof

/-- One byte of a frame (10 R168, 12 R190). -/
abbrev Byte := BitVec 8

/-- The CRC register of a frame (12 R190). -/
abbrev Word16 := BitVec 16

end Sys2Proof
end

