-- ==== Sys2Proof/Syntax.lean ====
section
/-! DEFINITION. The steps of the part, one constructor per row of spec/opcode_table.json, with the operands that the
spec says the step brings from outside the part. A step whose data already stands in the part (a timer, a request in
its slot, an entry of a FIFO) has no operand. -/

namespace Sys2Proof

/-- The three bridge phases (02 R24). -/
inductive Phase where
  | u | v | w
  deriving DecidableEq, Repr

/-- Direction of a back-EMF zero crossing (02 R24). -/
inductive Direction where
  | rising | falling
  deriving DecidableEq, Repr

/-- The operator's two controls (04 R67, R68). -/
inductive Control where
  | trigger | button
  deriving DecidableEq, Repr

/-- Classification of one received bit-time on the contact link (07 R130): a mark stands for 1, a space for 0. -/
inductive BitClass where
  | mark | space | noTone
  deriving DecidableEq, Repr

/-- What brings a power-on reset (11 R186, R188): the supply rising to its working level, or the voltage in mV that
the dock-voltage detector sees on the contacts, which leaves SHIP when it is above 20,000 mV. -/
inductive PowerSource where
  | supply
  | contact (mv : Nat)
  deriving DecidableEq, Repr

/-- The steps of the part (95; spec/opcode_table.json). Raw samples are the converters' values 0..4095 (01 R4). -/
inductive Instr where
  | fastFrame (ibus iph pz : Nat)
  | slotEnd (raw : Nat)
  | scanCompletion
  | sleepScanStart
  | alignTime
  | openStepEnd
  | captureCommutation
  | retryDwell
  | zeroCrossing (phase : Phase) (dir : Direction)
  | scheduledCommutation
  | lostSync
  | coastStop
  | rampStep
  | windowClose
  | bandBlank
  | rawInputChange (control : Control) (pressed : Bool)
  | triggerPress
  | triggerRelease
  | buttonPress
  | buttonRelease
  | probeIntervalEnd
  | openDwell
  | helloWait
  | silenceTime
  | dockLinkLost
  | phaseTimeLimit
  | carrierAssert
  | carrierDeassert
  | characterComplete
  | breakMark
  | contactEntryTaken
  | replyWindowExpiry
  | transmissionEnd
  | chassisCharacter (byte : Byte) (stopGood : Bool)
  | gap
  | chassisFrameSent
  | startUpWindow
  | unknownKind
  | ping
  | status
  | tableWrite
  | tableRead
  | tableActivate
  | tableDiscard
  | runPermit
  | modeSet
  | keepalive
  | keepaliveWindowExpiry
  | cause
  | clearTrip
  | counts
  | logWindow
  | logNext
  | probe
  | sleep
  | ship
  | reset
  | dockHello
  | dockPoll
  | sessionIdleTime
  | telemetryEmission
  | idleTimer
  | settleEnd
  | resetLineChange (high : Bool)
  | pinReset
  | chordReset
  | powerOnReset (source : PowerSource)
  | receivedBitTime (bit : BitClass)
  | transmitStageEnd
  | resetLineReturnHigh
  deriving DecidableEq, Repr

end Sys2Proof
end

