-- ==== Sys2Proof/Config.lean ====
section
/-! DEFINITION. The free values (what the manual leaves open, log 4 and log 6), the part's own codes, the grid of time,
and the names of the tables. -/

namespace Sys2Proof

/-- Free value: which of two acts that the spec allows in either order inside one step comes first (log 4).
Nothing in the model fixes it; claims hold for every value. -/
opaque Config.freeOrder : Nat → Nat

/-- Free value: a speed in rpm that the spec's formula does not give, because the measured time is 0 us or the
crossing it would be measured from is not known (02 R31, R33, R35; log 6). -/
opaque Config.freeSpeed : Nat → Nat

/-- Free value: a crossing interval in us measured from a crossing that was never taken (02 R35; log 6). -/
opaque Config.freeInterval : Nat → Nat

/-- Part code of PART HELLO (07 R138). -/
def Config.partCode : Nat := 4718

/-- Revision code of PART HELLO (07 R138). -/
def Config.partRevision : Nat := 1

/-- Ticks of time in `n` microseconds: one tick is 1/12 us, on which 1 us, the 12.5 us fast frame and the 1/19,200 s
bit-time are all whole numbers (log 1). -/
abbrev ticksOfUs (n : Nat) : Nat := 12 * n

/-- Ticks in `n` milliseconds. -/
abbrev ticksOfMs (n : Nat) : Nat := 12000 * n

/-- Ticks in `n` seconds. -/
abbrev ticksOfS (n : Nat) : Nat := 12000000 * n

/-- Ticks in `n` bit-times of the contact link, 1/19,200 s each (07 R130). -/
abbrev ticksOfBits (n : Nat) : Nat := 625 * n

/-- Ticks in one fast frame of 12.5 us (00 section 4.3). -/
abbrev ticksPerFastFrame : Nat := 150

/-- The ten tables (10 section 10.4). -/
inductive TableId where
  | channels | scan | drive | suction | band | dirt | pack | charge | actions | system
  deriving DecidableEq, Repr

/-- A table image: its entries in index order, each the list of its fields' values (12 section 12.3). -/
abbrev Image := List (List Int)

end Sys2Proof
end

