-- ==== Sys2Proof/Machine/Builtin.lean ====
section
/-! DEFINITION. The ten tables: ids, entry layouts (12 section 12.3) and built-in images (the chapters' own tables). -/

namespace Sys2Proof.Machine

/-- Table id as TABLE requests carry it (10 section 10.4). -/
def tableNum : TableId → Nat
  | .channels => 0 | .scan => 1 | .drive => 2 | .suction => 3 | .band => 4
  | .dirt => 5 | .pack => 6 | .charge => 7 | .actions => 8 | .system => 9

/-- The table of an id, none above 9. -/
def tableOfNum? : Nat → Option TableId
  | 0 => some .channels | 1 => some .scan | 2 => some .drive | 3 => some .suction | 4 => some .band
  | 5 => some .dirt | 6 => some .pack | 7 => some .charge | 8 => some .actions | 9 => some .system
  | _ => none

/-- Every table, in id order. -/
def allTables : List TableId :=
  [.channels, .scan, .drive, .suction, .band, .dirt, .pack, .charge, .actions, .system]

/-- Number of entries of a table (10 section 10.4). -/
def tableEntries : TableId → Nat
  | .channels => 16 | .scan => 17 | .drive => 17 | .suction => 12 | .band => 8
  | .dirt => 29 | .pack => 36 | .charge => 9 | .actions => 16 | .system => 7

/-- Layout of one entry: per field its width in bytes and whether it is signed (12 section 12.3). Filler bytes of the
CHARGE settings entry are fields of their own, so that they read back as written (12 R190). -/
def entryLayout (t : TableId) (index : Nat) : List (Nat × Bool) :=
  match t with
  | .channels => [(2, false), (2, true), (2, true), (2, true), (2, true), (1, false), (1, false), (1, false)]
  | .scan => [(1, false)]
  | .drive => [(4, true)]
  | .suction => [(4, false), (4, false)]
  | .band => [(4, false), (2, false), (2, false), (2, false), (2, false)]
  | .dirt => [(4, true)]
  | .pack => [(4, true)]
  | .charge =>
    if index = 0 then
      [(1, false), (2, true), (2, true), (2, true), (2, false), (1, false), (1, false), (1, false)]
    else [(2, false), (2, false), (1, false), (1, false), (2, false), (2, false), (1, false), (1, false)]
  | .actions => [(1, false), (2, false), (1, false), (1, false)]
  | .system => [(4, true)]

/-- Bytes per entry (10 section 10.4). -/
def entrySize (t : TableId) : Nat :=
  match t with
  | .channels => 13 | .scan => 1 | .drive => 4 | .suction => 8 | .band => 12
  | .dirt => 4 | .pack => 4 | .charge => 12 | .actions => 5 | .system => 4

/-- A channel entry: offset, gain, base, low limit, high limit, low cause, high cause, debounce (01 R9). -/
def cellChannel : List Int := [0, 1280, 0, -32768, 4250, 0, 6, 3]

/-- Built-in pack thermistor entry (01 R9). -/
def thermistorChannel : List Int := [2048, -512, 250, -200, 600, 9, 8, 3]

/-- Built-in CHANNELS image (01 R9). -/
def builtinChannels : Image :=
  [[512, 12800, 0, -32768, 32767, 0, 0, 1],
   [0, 8192, 0, -32768, 32000, 0, 1, 1],
   [0, 1024, 0, -32768, 32767, 0, 0, 1],
   [0, 8192, 0, -32768, 32767, 0, 0, 1],
   [0, 8192, 0, -32768, 31000, 0, 14, 3]] ++
  List.replicate 7 cellChannel ++ List.replicate 2 thermistorChannel ++
  [[2048, -512, 250, -32768, 1050, 0, 4, 5],
   [0, 1024, 0, -32768, 32767, 0, 0, 1]]

/-- Built-in SCAN image (01 R12). -/
def builtinScan : Image :=
  [[13], [3], [4], [5], [6], [7], [8], [9], [10], [11], [12], [13], [14], [15], [0], [0], [0]]

/-- Built-in DRIVE image (02 R21). -/
def builtinDrive : Image :=
  [[4000], [200], [4000], [20], [480], [400], [2], [200], [4096], [64], [80], [4000], [32], [60], [150],
   [125000], [30000]]

/-- Built-in SUCTION image: normal and reserve speed (04 R74). -/
def builtinSuction : Image :=
  [[45000, 40000], [50000, 40000], [55000, 40000], [60000, 40000],
   [60000, 50000], [75000, 55000], [95000, 60000], [110000, 65000],
   [120000, 70000], [120000, 70000], [120000, 70000], [120000, 70000]]

/-- Built-in BAND image: upper edge, A, L, blockage minimum, blockage dwell (04 R76). -/
def builtinBand : Image :=
  [[20000, 900, 400, 0, 1000], [40000, 1000, 450, 8, 1000], [60000, 1100, 500, 25, 800],
   [75000, 1200, 500, 50, 800], [90000, 1300, 550, 85, 600], [100000, 1400, 600, 120, 600],
   [110000, 1500, 650, 160, 500], [130000, 1650, 700, 210, 500]]

/-- Built-in DIRT image (03 R52, R60). -/
def builtinDirt : Image :=
  [[16], [200], [600], [64], [150], [400], [900], [100], [300], [700], [3],
   [300], [2], [1], [700], [4], [3], [1400], [8], [8],
   [2400], [16], [20], [3400], [40], [40], [4096], [800], [0]]

/-- Built-in PACK image (05 R85). -/
def builtinPack : Image :=
  [[3000], [2800], [3000], [250], [20], [1500], [30000], [3000], [500], [15], [4000], [6],
   [-400], [15000], [0], [30000], [450], [26000], [500], [18000], [550], [8000], [600], [0],
   [3300], [0], [3500], [10], [3650], [30], [3800], [60], [4000], [85], [4180], [100]]

/-- Built-in CHARGE image (06 R117): phase entries are demand, cell ceiling, flags (bit 0 balance, bit 1 done), exit
test code, exit value, time limit, next on exit, next on limit (255 is FAULT). -/
def builtinCharge : Image :=
  [[4, 0, 100, 450, 20, 0, 0, 0],
   [300, 4200, 0, 1, 3000, 1800, 1, 255],
   [3000, 4200, 0, 2, 4180, 7200, 2, 255],
   [3000, 4200, 1, 4, 150, 3600, 3, 3],
   [0, 4200, 2, 3, 4050, 0, 1, 0]] ++
  List.replicate 4 [0, 4200, 0, 0, 0, 0, 0, 0]

/-- Built-in ACTIONS image: action, derate current, priority, attention enable (08 R145). -/
def builtinActions : Image :=
  [[2, 12000, 3, 1], [0, 12000, 1, 1], [0, 12000, 2, 1], [1, 12000, 2, 1],
   [0, 12000, 1, 1], [3, 12000, 3, 1], [2, 12000, 2, 1], [2, 12000, 3, 1],
   [0, 12000, 1, 1], [0, 12000, 1, 1], [2, 12000, 2, 1], [2, 12000, 2, 1],
   [0, 12000, 1, 1], [3, 12000, 3, 1], [2, 12000, 2, 1], [0, 12000, 0, 0]]

/-- Built-in SYSTEM image (10 R180). -/
def builtinSystem : Image := [[0], [100], [0], [1000], [0], [300], [0]]

/-- Built-in image of each table. -/
def builtin : TableId → Image
  | .channels => builtinChannels | .scan => builtinScan | .drive => builtinDrive
  | .suction => builtinSuction | .band => builtinBand | .dirt => builtinDirt
  | .pack => builtinPack | .charge => builtinCharge | .actions => builtinActions
  | .system => builtinSystem

end Sys2Proof.Machine
end

