-- ==== Sys2Proof/Machine/State.lean ====
section
/-! DEFINITION. The state of the part, one structure per block (00 section 2), and State.reset, the part right after a
power-on reset (11 R188, R189). Times are in ticks of 1/12 us (log 1); charges in mA ms; every other quantity has the
unit its rule gives. INVENTORY.md lists each field with its rule and reset value. -/

namespace Sys2Proof.Machine

/-- Why a step of the part could stop it: never. Every trouble of the spec is a cause, an answer status or a count, after
which the part goes on, so no step raises a fault and this type has no constructor (safe). -/
inductive Fault : Type
  deriving DecidableEq, Repr

/-- Why a command could be turned away without a meaning. -/
inductive Refusal where
  /-- Raised by exec for a command that has no meaning yet; safe, since the machine stops instead of going on. -/
  | notModelled (mnemonic : String)
  deriving DecidableEq, Repr

/-! ### Names -/

/-- Origin of a request (00 section 4.5). -/
inductive Origin where
  | chassis | dock
  deriving DecidableEq, Repr

/-- Motor states (02 section 2.1). -/
inductive MotorState where
  | stopped | align | rampOpen | capture | run | coast | lockout | probe
  deriving DecidableEq, Repr

/-- Suction modes (04 R69). -/
inductive Mode where
  | eco | auto | boost
  deriving DecidableEq, Repr

/-- Detector states (03 section 3.3). -/
inductive DetState where
  | quiet | impact | tail
  deriving DecidableEq, Repr

/-- Probe states (05 R103); the index is 1..3. -/
inductive ProbeState where
  | idle
  | pulse (k : Nat)
  | rest (k : Nat)
  deriving DecidableEq, Repr

/-- Results of a probe (05 R105). -/
inductive ProbeResult where
  | done | abortedTrigger | abortedDock | abortedFault
  deriving DecidableEq, Repr

/-- Pack path (06 R109). -/
inductive Path where
  | opened | discharge | charge
  deriving DecidableEq, Repr

/-- Dock presence (06 R113). -/
inductive Presence where
  | undecided | absent | present
  deriving DecidableEq, Repr

/-- Power states (11). -/
inductive PowerState where
  | awake | sleep | ship
  deriving DecidableEq, Repr

/-- Reset kinds (11 R188). -/
inductive ResetKind where
  | powerOn | pin | chord | soft
  deriving DecidableEq, Repr

/-- Cause kinds: condition kinds 1..16, info kinds 20..27 (08 section 8.1). -/
inductive CauseKind where
  | overcurrent | lostSync | startFail | bridgeHot | blockage | cellOver | packEmpty | packHot
  | packCold | budgetExhausted | chargeTimeout | chargeMismatch | dockSilent | dockOvervolt
  | linkWatchdog | sampleSaturated
  | docked | undocked | chargeDone | probeDone | sessionLogged | modeChanged | dockLock | tableActivated
  deriving DecidableEq, Repr

/-- Answer statuses (10 R170). -/
inductive Status where
  | ok | accepted | pending | busy | none | unknown | badLength | badIndex | badTable | notPermitted | state
  deriving DecidableEq, Repr

/-- End reasons of a session record (09 section 9.2). -/
inductive EndReason where
  | docked | idle | sleep | ship | undocked | trip | linkLost | resetLost
  deriving DecidableEq, Repr

/-- Session kinds (09). -/
inductive SessionKind where
  | clean | charge
  deriving DecidableEq, Repr

/-! ### Acquisition unit (01) -/

/-- The set of one completed scan (01 R16), with the state in which the scan started, which fixes t_scan (05 R88). -/
structure ScanSet where
  cells : List Int
  cellSat : List Bool
  vbus : Int
  vdock : Int
  tp1 : Int
  tp2 : Int
  tbrg : Int
  opt : Option Int
  iScan : Int
  durationUs : Nat
  asleep : Bool
  deriving DecidableEq, Repr

/-- Acquisition unit (01). Lists over channels have 16 places, lists over cells 7. -/
structure Acq where
  latest : List Int
  sat : List Bool
  lowCount : List Nat
  highCount : List Nat
  lowOn : List Bool
  highOn : List Bool
  lastGood : List Int
  scanning : Bool
  scanFresh : Bool
  scanAsleep : Bool
  scanInPulse : Bool
  scanTime : Nat
  slotIndex : Nat
  slotFrames : Nat
  scanVals : List (Option Int)
  scanSat : List Bool
  accSum : Int
  accCount : Nat
  lastSet : Option ScanSet
  sleepTimer : Nat
  deriving DecidableEq, Repr

/-! ### Drive unit (02) -/

/-- Drive unit (02). -/
structure Drive where
  motor : MotorState
  step : Nat
  openStep : Nat
  capComms : Nat
  capRun : Nat
  capSeen : Bool
  tCap : Nat
  tLast : Nat
  sM : Nat
  sT : Nat
  duty : Nat
  integ : Int
  pLast : Int
  hold : Option Nat
  foldMark : Bool
  lM : Nat
  attempts : Nat
  retry : Option Nat
  waitStop : Bool
  demand : Bool
  revCount : Nat
  stateTime : Nat
  stepTime : Nat
  crossTime : Nat
  crossKnown : Bool
  revTime : Nat
  revKnown : Bool
  quiet : Nat
  nextComm : Option Nat
  armed : Bool
  stopCross : Option Nat
  tC : Nat
  coastStep : Nat
  rampTime : Nat
  deriving DecidableEq, Repr

/-! ### Planner (04) -/

/-- Planner (04), with the two operator input pins. BLOCKAGE's condition is held in the cause unit's flags. -/
structure Plan where
  trigger : Bool
  button : Bool
  trigRaw : Bool
  btnRaw : Bool
  trigTime : Nat
  btnTime : Nat
  pressTimer : Option Nat
  wakePress : Bool
  mode : Mode
  permit : Bool
  exhausted : Bool
  runReq : Bool
  sReq : Nat
  band : Nat
  lowTime : Nat
  recTime : Nat
  deriving DecidableEq, Repr

/-! ### Dirt unit (03) -/

/-- The impact detector (03 section 3.3). -/
structure Detector where
  state : DetState
  elapsed : Nat
  peak : Nat
  duration : Nat
  tail : Nat
  cont : Bool
  deriving DecidableEq, Repr

/-- The last window record (03 R59). -/
structure WindowRecord where
  bins : List Nat
  rejected : Nat
  cont : Nat
  optTerm : Nat
  score : Nat
  blanked : Bool
  level : Nat
  fallHold : Nat
  deriving DecidableEq, Repr

/-- Dirt unit (03). -/
structure Dirt where
  det : Detector
  armA : Nat
  relL : Nat
  bandBlank : Option Nat
  winSamples : Nat
  winBlanked : Nat
  bins : List Nat
  rejected : Nat
  contTally : Nat
  optSum : Int
  optCount : Nat
  lastWin : WindowRecord
  level : Nat
  fallHold : Nat
  deriving DecidableEq, Repr

/-! ### Pack monitor (05) -/

/-- One recorded scan: I_scan, V_i and the saturation marks (05 R88, R103). -/
structure ScanPoint where
  i : Int
  v : List Nat
  sat : List Bool
  deriving DecidableEq, Repr

/-- Outcome of the latest probe with its flagged cells (05 R105). -/
structure ProbeOutcome where
  result : ProbeResult
  flagged : List Bool
  deriving DecidableEq, Repr

/-- The figures of the pack monitor that other events than a scan completion may move, as the latest completion left
them: what the PACK telemetry group reports (05 R107, 10 R181). -/
structure PackReport where
  r : List Int
  q : Option Int
  qFull : Int
  soc : Nat
  deriving DecidableEq, Repr

/-- Pack monitor (05). `skipEst`: a probe has ended since the latest scan completion began, so the next one makes no
resistance estimate; `skipNow`: the completion under work is such a one (05 R89, R106). -/
structure Pack where
  v : List Nat
  r : List Int
  e : List Int
  prev : Option ScanPoint
  discards : Nat
  q : Option Int
  qFull : Int
  emptyMark : Bool
  emptyAtOpen : Bool
  sessCharge : Int
  soc : Nat
  reserve : Bool
  budget : Nat
  lCell : Nat
  lTemp : Nat
  emptyCount : Nat
  exhCount : Nat
  shipCount : Nat
  probe : ProbeState
  probeTime : Nat
  before : Option ScanPoint
  inside : Option ScanPoint
  figures : List (List (Option Int))
  lastProbe : Option ProbeOutcome
  skipEst : Bool
  skipNow : Bool
  clampDue : Bool
  report : PackReport
  deriving DecidableEq, Repr

/-! ### Charge unit (06) -/

/-- The dock record (06 R115). -/
structure DockRecord where
  maxCurrent : Nat
  maxVoltage : Nat
  revision : Nat
  deriving DecidableEq, Repr

/-- An open charge session: RUNNING or FAULTED in a phase (06 R120, R122). -/
structure ChargeSession where
  faulted : Bool
  phase : Nat
  deriving DecidableEq, Repr

/-- The mismatch run with the time since its start (06 R126). -/
inductive MismatchRun where
  | none
  | over (time : Nat)
  | within (time : Nat)
  deriving DecidableEq, Repr

/-- Charge unit (06). The path and bleed switches follow `path` and `bleed`. -/
structure Charge where
  path : Path
  dwell : Option Nat
  presence : Presence
  highTime : Nat
  lowTime : Nat
  dock : Option DockRecord
  helloWait : Option Nat
  silence : Option Nat
  session : Option ChargeSession
  phaseTime : Nat
  below : Nat
  highest : Nat
  cap : Nat
  demand : Nat
  mismatch : MismatchRun
  bleed : List Bool
  bleedTime : Nat
  report : Option (Nat × Nat)
  deriving DecidableEq, Repr

/-! ### Contact modem (07) -/

/-- What an answer's end brings about (11 R186, R188). -/
inductive FrameTag where
  | plain | shipOk | resetOk
  deriving DecidableEq, Repr

/-- An entry of the receive FIFO (07 R133); a byte carries the carrier period of its character (07 R131, R134). -/
inductive FifoEntry where
  | byte (b : Byte) (period : Nat)
  | parity
  | stop
  | brk
  | overrun
  deriving DecidableEq, Repr

/-- The receiver (07 R131); in CHARACTER it holds the bit-times taken after the start bit. -/
inductive Receiver where
  | idle
  | character (bits : List BitClass)
  | off
  deriving DecidableEq, Repr

/-- Stages of a transmission (07 R137). -/
inductive TxStage where
  | preamble | frame | postamble
  deriving DecidableEq, Repr

/-- An answer for the contact link with its carrier period number (07 R136). -/
structure Answer where
  bytes : List Byte
  period : Nat
  tag : FrameTag
  deriving DecidableEq, Repr

/-- A transmission under way on the contacts (07 R137). -/
structure ContactTx where
  stage : TxStage
  answer : Answer
  time : Nat
  deriving DecidableEq, Repr

/-- Contact modem (07). -/
structure Modem where
  carrier : Bool
  toneRun : Nat
  silRun : Nat
  period : Nat
  rx : Receiver
  breakDue : Bool
  bitsSince : Nat
  fifo : List FifoEntry
  overrun : Bool
  buf : Option Answer
  window : Option (Nat × Nat)
  tx : Option ContactTx
  rxParity : Nat
  rxStop : Nat
  rxGap : Nat
  rxOverrun : Nat
  replyMissed : Nat
  deriving DecidableEq, Repr

/-! ### Frame unit (10) -/

/-- Parser states (10 R168). -/
inductive ParserState where
  | hunt | length | body | crc1 | crc2
  deriving DecidableEq, Repr

/-- A link's parser: its state, the length byte, the kind and body bytes collected, the high CRC byte. -/
structure Parser where
  state : ParserState
  len : Nat
  bytes : List Byte
  crcHigh : Byte
  deriving DecidableEq, Repr

/-- A complete frame in a request slot (10 R169). -/
structure Request where
  kind : Byte
  body : List Byte
  order : Nat
  period : Nat
  deriving DecidableEq, Repr

/-- A frame for the chassis line. -/
structure TxFrame where
  bytes : List Byte
  tag : FrameTag
  deriving DecidableEq, Repr

/-- The keep-alive window (08 R155). -/
inductive KeepWindow where
  | idle
  | running (first : Bool) (elapsed : Nat)
  | expired
  deriving DecidableEq, Repr

/-- The frame unit's counts (10 R173). -/
structure LinkCounts where
  chCrc : Nat
  chHeader : Nat
  chGap : Nat
  chFraming : Nat
  chEarly : Nat
  chSlotFull : Nat
  coCrc : Nat
  coHeader : Nat
  coEarly : Nat
  coSlotFull : Nat
  skipped : Nat
  deriving DecidableEq, Repr

/-- Frame unit (10). -/
structure Frame where
  chPar : Parser
  coPar : Parser
  chSlot : Option Request
  coSlot : Option Request
  nextOrder : Nat
  waiting : Option TxFrame
  txBuf : Option TxFrame
  sending : Option (TxFrame × Nat)
  telem : List TxFrame
  startup : Option Nat
  counts : LinkCounts
  gapTime : Nat
  telTimer : Option Nat
  telSeq : Nat
  keep : KeepWindow
  deriving DecidableEq, Repr

/-! ### Table store (10 section 10.4) -/

/-- One table of the store (10 R174). -/
structure TableSlot where
  active : Image
  staging : Image
  owner : Option Origin
  waiting : Option Image
  deriving DecidableEq, Repr

/-- The ten tables. -/
structure Tables where
  channels : TableSlot
  scan : TableSlot
  drive : TableSlot
  suction : TableSlot
  band : TableSlot
  dirt : TableSlot
  pack : TableSlot
  charge : TableSlot
  actions : TableSlot
  system : TableSlot
  deriving DecidableEq, Repr

/-! ### Cause unit (08) -/

/-- A record of the pending set (08 section 8.4). Its condition-present flag is the kind's condition flag (R151,
R152), which is held once, in `Causes.present`. -/
structure CauseRecord where
  kind : CauseKind
  firstMs : Nat
  count : Nat
  reported : Bool
  detail : Nat
  detail2 : Nat
  deriving DecidableEq, Repr

/-- Cause unit (08). `present` has one flag per condition kind 1..16. -/
structure Causes where
  present : List Bool
  records : List CauseRecord
  trip : Bool
  hold : Bool
  deriving DecidableEq, Repr

/-! ### Session log (09) -/

/-- The accumulator of an open session (09 R159, R160, R162). -/
structure Session where
  kind : SessionKind
  openMs : Nat
  startSoc : Nat
  chargeSum : Int
  causes : List CauseKind
  runTime : Nat
  starts : Nat
  bins : List Nat
  rejected : Nat
  cont : Nat
  peakLevel : Nat
  ecoTime : Nat
  autoTime : Nat
  boostTime : Nat
  learned : Option Nat
  deriving DecidableEq, Repr

/-- The CLEAN fields of a record (09 section 9.2). -/
structure CleanFields where
  runS : Nat
  bins : List Nat
  rejected : Nat
  cont : Nat
  peakLevel : Nat
  ecoS : Nat
  autoS : Nat
  boostS : Nat
  starts : Nat
  deriving DecidableEq, Repr

/-- The common optional fields of a record, absent together in a RESET_LOST record (09 section 9.2). -/
structure CommonFields where
  duration : Nat
  startSoc : Nat
  endSoc : Nat
  chargeDelta : Int
  causes : List CauseKind
  deriving DecidableEq, Repr

/-- A record of the ring (09 section 9.2): `clean` is present in a CLEAN record; the highest phase with the bleed
seconds, and the learned capacity, in a CHARGE record. -/
structure LogRecord where
  seq : Nat
  kind : SessionKind
  reason : EndReason
  common : Option CommonFields
  clean : Option CleanFields
  charge : Option (Nat × Nat)
  learned : Option Nat
  deriving DecidableEq, Repr

/-- A read window of one link (09 R165). -/
structure ReadWindow where
  first : Nat
  last : Nat
  backward : Bool
  cursor : Nat
  deriving DecidableEq, Repr

/-- Session log (09). -/
structure Log where
  ring : List LogRecord
  nextSeq : Nat
  drops : Nat
  session : Option Session
  idleTime : Nat
  retained : Bool
  winChassis : Option ReadWindow
  winDock : Option ReadWindow
  deriving DecidableEq, Repr

/-! ### Power control (11) -/

/-- Power control (11), with the reset line and the dock-voltage detector's pin. -/
structure Power where
  state : PowerState
  held : Bool
  settle : Option Nat
  settleScan : Bool
  idleTimer : Option Nat
  chord : Option (Nat × Nat)
  sleepChord : Option Control
  chordBlock : Bool
  lineHigh : Bool
  lineLow : Option Nat
  lineBack : Nat
  clock : Nat
  shipPending : Bool
  resetPending : Bool
  contactMv : Nat
  deriving DecidableEq, Repr

/-! ### The part -/

/-- The part. The last three fields are the model's own: the queue of commands, the ticks that a step on an empty queue
lets pass (log 1), and the counter that indexes the free values (log 4, log 6). -/
structure State where
  acq : Acq
  drive : Drive
  plan : Plan
  dirt : Dirt
  pack : Pack
  charge : Charge
  modem : Modem
  frame : Frame
  tables : Tables
  cause : Causes
  log : Log
  power : Power
  pending : List Instr
  idleSpan : Nat
  freeCtr : Nat
  deriving DecidableEq, Repr

/-! ### Reset -/

/-- 01 R17; the first scan starts when the reset ends. -/
def Acq.reset : Acq where
  latest := List.replicate 16 0
  sat := List.replicate 16 false
  lowCount := List.replicate 16 0
  highCount := List.replicate 16 0
  lowOn := List.replicate 16 false
  highOn := List.replicate 16 false
  lastGood := List.replicate 7 0
  scanning := true
  scanFresh := true
  scanAsleep := false
  scanInPulse := true
  scanTime := 0
  slotIndex := 0
  slotFrames := 0
  scanVals := List.replicate 16 none
  scanSat := List.replicate 7 false
  accSum := 0
  accCount := 0
  lastSet := none
  sleepTimer := 0

/-- 02 R44. -/
def Drive.reset : Drive where
  motor := .stopped
  step := 1
  openStep := 0
  capComms := 0
  capRun := 0
  capSeen := false
  tCap := 0
  tLast := 0
  sM := 0
  sT := 0
  duty := 0
  integ := 0
  pLast := 0
  hold := none
  foldMark := false
  lM := 0
  attempts := 0
  retry := none
  waitStop := false
  demand := false
  revCount := 0
  stateTime := 0
  stepTime := 0
  crossTime := 0
  crossKnown := false
  revTime := 0
  revKnown := false
  quiet := 0
  nextComm := none
  armed := false
  stopCross := none
  tC := 0
  coastStep := 1
  rampTime := 0

/-- 04 R84 at power-on. -/
def Plan.reset : Plan where
  trigger := false
  button := false
  trigRaw := false
  btnRaw := false
  trigTime := 0
  btnTime := 0
  pressTimer := none
  wakePress := false
  mode := .auto
  permit := false
  exhausted := false
  runReq := false
  sReq := 0
  band := 0
  lowTime := 0
  recTime := 0

/-- The detector in QUIET with its impact state cleared (03 R47). -/
def Detector.quiet : Detector where
  state := .quiet
  elapsed := 0
  peak := 0
  duration := 0
  tail := 0
  cont := false

/-- The empty last window record (03 R59). -/
def WindowRecord.empty : WindowRecord where
  bins := List.replicate 6 0
  rejected := 0
  cont := 0
  optTerm := 0
  score := 0
  blanked := false
  level := 0
  fallHold := 0

/-- 03 R66; A and L are those of band 0. -/
def Dirt.reset : Dirt where
  det := Detector.quiet
  armA := 900
  relL := 400
  bandBlank := none
  winSamples := 0
  winBlanked := 0
  bins := List.replicate 6 0
  rejected := 0
  contTally := 0
  optSum := 0
  optCount := 0
  lastWin := WindowRecord.empty
  level := 0
  fallHold := 0

/-- 05 R108 at power-on: R_nom 250, Q unknown, Q_full 4000 mAh in mA ms. -/
def Pack.reset : Pack where
  v := List.replicate 7 0
  r := List.replicate 7 250
  e := List.replicate 7 0
  prev := none
  discards := 0
  q := none
  qFull := 14400000000
  emptyMark := false
  emptyAtOpen := false
  sessCharge := 0
  soc := 255
  reserve := false
  budget := 0
  lCell := 0
  lTemp := 0
  emptyCount := 0
  exhCount := 0
  shipCount := 0
  probe := .idle
  probeTime := 0
  before := none
  inside := none
  figures := []
  lastProbe := none
  skipEst := false
  skipNow := false
  clampDue := false
  report := { r := List.replicate 7 250, q := none, qFull := 14400000000, soc := 255 }

/-- 06 R129. -/
def Charge.reset : Charge where
  path := .opened
  dwell := none
  presence := .undecided
  highTime := 0
  lowTime := 0
  dock := none
  helloWait := none
  silence := none
  session := none
  phaseTime := 0
  below := 0
  highest := 0
  cap := 0
  demand := 0
  mismatch := .none
  bleed := List.replicate 7 false
  bleedTime := 0
  report := none

/-- 07 R143. -/
def Modem.reset : Modem where
  carrier := false
  toneRun := 0
  silRun := 0
  period := 0
  rx := .idle
  breakDue := false
  bitsSince := 0
  fifo := []
  overrun := false
  buf := none
  window := none
  tx := none
  rxParity := 0
  rxStop := 0
  rxGap := 0
  rxOverrun := 0
  replyMissed := 0

/-- A parser in HUNT with nothing collected (10 R182). -/
def Parser.hunting : Parser where
  state := .hunt
  len := 0
  bytes := []
  crcHigh := 0

/-- All counts 0 (10 R182). -/
def LinkCounts.zero : LinkCounts where
  chCrc := 0
  chHeader := 0
  chGap := 0
  chFraming := 0
  chEarly := 0
  chSlotFull := 0
  coCrc := 0
  coHeader := 0
  coEarly := 0
  coSlotFull := 0
  skipped := 0

/-- 10 R182; the start-up window runs for 2 ms, the built-in group mask is 0. -/
def Frame.reset : Frame where
  chPar := Parser.hunting
  coPar := Parser.hunting
  chSlot := none
  coSlot := none
  nextOrder := 0
  waiting := none
  txBuf := none
  sending := none
  telem := []
  startup := some (ticksOfMs 2)
  counts := LinkCounts.zero
  gapTime := 0
  telTimer := none
  telSeq := 0
  keep := .idle

/-- A table at its built-in image, with no owner and nothing pending (11 R189). -/
def TableSlot.builtin (t : TableId) : TableSlot where
  active := Machine.builtin t
  staging := Machine.builtin t
  owner := none
  waiting := none

/-- 11 R189 at power-on. -/
def Tables.reset : Tables where
  channels := TableSlot.builtin .channels
  scan := TableSlot.builtin .scan
  drive := TableSlot.builtin .drive
  suction := TableSlot.builtin .suction
  band := TableSlot.builtin .band
  dirt := TableSlot.builtin .dirt
  pack := TableSlot.builtin .pack
  charge := TableSlot.builtin .charge
  actions := TableSlot.builtin .actions
  system := TableSlot.builtin .system

/-- 08 R158. -/
def Causes.reset : Causes where
  present := List.replicate 16 false
  records := []
  trip := false
  hold := false

/-- 09 R167 at power-on. -/
def Log.reset : Log where
  ring := []
  nextSeq := 1
  drops := 0
  session := none
  idleTime := 0
  retained := false
  winChassis := none
  winDock := none

/-- 11 R189; the reset line stands high and the contacts carry no voltage (log 15, log 16). -/
def Power.reset : Power where
  state := .awake
  held := false
  settle := some 0
  settleScan := false
  idleTimer := none
  chord := none
  sleepChord := none
  chordBlock := false
  lineHigh := true
  lineLow := none
  lineBack := 0
  clock := 0
  shipPending := false
  resetPending := false
  contactMv := 0

/-- The part right after a power-on reset, with an empty queue. -/
def State.reset : State where
  acq := Acq.reset
  drive := Drive.reset
  plan := Plan.reset
  dirt := Dirt.reset
  pack := Pack.reset
  charge := Charge.reset
  modem := Modem.reset
  frame := Frame.reset
  tables := Tables.reset
  cause := Causes.reset
  log := Log.reset
  power := Power.reset
  pending := []
  idleSpan := 150
  freeCtr := 0

end Sys2Proof.Machine
end

