-- ==== Sys2Proof/Machine/Operands.lean ====
section
/-! DEFINITION. How operands and fields are read and written: the manual's arithmetic (00 section 4.2), byte order and
CRC (12 R190), frames, table entries, and the named fields of the table images in use. -/

namespace Sys2Proof.Machine

/-! ### Arithmetic (00 section 4.2) -/

/-- Clamp to lo..hi. -/
def clampInt (lo hi x : Int) : Int := if x < lo then lo else if hi < x then hi else x

/-- Rounded to the nearest integer, halves away from zero. The divisor is not 0 where the spec divides. -/
def roundDiv (n d : Int) : Int :=
  let q : Int := (((2 * n.natAbs + d.natAbs) / (2 * d.natAbs) : Nat) : Int)
  if (n < 0) = (d < 0) then q else -q

/-- Floored quotient for a positive divisor. -/
def floorDiv (n d : Int) : Int := n / d

/-- Truncated quotient. -/
def truncDiv (n d : Int) : Int := n.tdiv d

/-- A 16-bit count that saturates at 65535. -/
def satCount (n : Nat) : Nat := min 65535 n

/-- The smallest of a list, 0 of an empty one. -/
def minNat : List Nat → Nat
  | [] => 0
  | x :: xs => xs.foldl min x

/-- The largest of a list, 0 of an empty one. -/
def maxNat (xs : List Nat) : Nat := xs.foldl max 0

/-- Whether any mark of a list is set. -/
def anyMark (xs : List Bool) : Bool := xs.any id

/-! ### Bytes, high byte first (12 R190) -/

/-- A number as `w` bytes, high byte first. -/
def natBytes (w n : Nat) : List Byte :=
  (List.range w).map fun i => BitVec.ofNat 8 (n / 256 ^ (w - 1 - i))

/-- The number that bytes spell, high byte first. -/
def bytesNat (bs : List Byte) : Nat := bs.foldl (fun a b => a * 256 + b.toNat) 0

/-- A signed number as `w` bytes of two's complement, high byte first. -/
def intBytes (w : Nat) (n : Int) : List Byte := natBytes w (n % ((256 ^ w : Nat) : Int)).toNat

/-- The two's complement number that bytes spell. -/
def bytesInt (bs : List Byte) : Int :=
  let n := bytesNat bs
  if n < 256 ^ bs.length / 2 then (n : Int) else (n : Int) - ((256 ^ bs.length : Nat) : Int)

/-- A telemetry field of `w` bytes: a value too wide for it is sent as its largest (12 R192). -/
def natField (w n : Nat) : List Byte := natBytes w (min n (256 ^ w - 1))

/-- A signed telemetry field of `w` bytes, at its nearest end where the value is too wide (12 R192). -/
def intField (w : Nat) (n : Int) : List Byte :=
  intBytes w (clampInt (-((256 ^ w / 2 : Nat) : Int)) (((256 ^ w / 2 : Nat) : Int) - 1) n)

/-- A bitmap: bit i is 1 for a member i of the set (12 R190). -/
def bitmap (marks : List Bool) : Nat :=
  (marks.zipIdx).foldl (fun a m => if m.1 then a + 2 ^ m.2 else a) 0

/-- One flag bit. -/
def flagBit (b : Bool) (i : Nat) : Nat := if b then 2 ^ i else 0

/-- A presence flag of an Option. -/
def isHeld {α : Type} : Option α → Bool
  | some _ => true
  | none => false

/-! ### CRC and frames (12 section 12.1) -/

/-- One bit of the CRC with polynomial 1021h, most significant bit first. -/
def crcBit (r : Word16) : Word16 := if r.msb then (r <<< 1) ^^^ 0x1021#16 else r <<< 1

/-- The CRC register after one byte. -/
def crcByte (r : Word16) (b : Byte) : Word16 :=
  crcBit (crcBit (crcBit (crcBit (crcBit (crcBit (crcBit (crcBit (r ^^^ (b.zeroExtend 16 <<< 8)))))))))

/-- The CRC of a byte sequence, from FFFFh (12 R190). -/
def crcOf (bs : List Byte) : Word16 := bs.foldl crcByte 0xFFFF#16

/-- The CRC as its two frame bytes, high byte first. -/
def crcBytes (bs : List Byte) : List Byte :=
  [(crcOf bs >>> 8).truncate 8, (crcOf bs).truncate 8]

/-- A whole frame of a kind and body (12 section 12.1). -/
def frameBytes (kind : Byte) (body : List Byte) : List Byte :=
  let inner := BitVec.ofNat 8 (body.length + 1) :: kind :: body
  0x5C#8 :: inner ++ crcBytes inner

/-- Status codes (12 section 12.1). -/
def statusCode : Status → Byte
  | .ok => 0 | .accepted => 1 | .pending => 2 | .busy => 3 | .none => 4 | .unknown => 5
  | .badLength => 6 | .badIndex => 7 | .badTable => 8 | .notPermitted => 9 | .state => 10

/-- An answer: the request's kind plus 80h, the status byte, the data (10 R170, 12 R190). A kind of 80h or above, which
is answered UNKNOWN, is added modulo 256 (log 41). -/
def answerBytes (kind : Byte) (st : Status) (data : List Byte) : List Byte :=
  frameBytes (kind + 0x80#8) (statusCode st :: data)

/-! ### Table entries (12 section 12.3) -/

/-- The fields of one entry from its bytes. -/
def decodeEntry : List (Nat × Bool) → List Byte → List Int
  | [], _ => []
  | (w, signed) :: rest, bs =>
    (if signed then bytesInt (bs.take w) else (bytesNat (bs.take w) : Int)) :: decodeEntry rest (bs.drop w)

/-- The bytes of one entry. -/
def encodeEntry : List (Nat × Bool) → List Int → List Byte
  | [], _ => []
  | (w, _) :: rest, fs => intBytes w (fs.headD 0) ++ encodeEntry rest (fs.drop 1)

/-- `count` entries of a table from index `first` on, from their bytes. -/
def decodeEntries (t : TableId) (first : Nat) : Nat → List Byte → List (List Int)
  | 0, _ => []
  | n + 1, bs => decodeEntry (entryLayout t first) bs :: decodeEntries t (first + 1) n (bs.drop (entrySize t))

/-- The bytes of `count` entries of an image from index `first` on. -/
def encodeEntries (t : TableId) (img : Image) (first : Nat) : Nat → List Byte
  | 0 => []
  | n + 1 => encodeEntry (entryLayout t first) (img.getD first []) ++ encodeEntries t img (first + 1) n

/-- The image with whole entries replaced from index `first` on. -/
def writeEntries (img : Image) (first : Nat) : List (List Int) → Image
  | [] => img
  | e :: es => writeEntries (img.set first e) (first + 1) es

/-- Field `j` of entry `i` of an image. -/
def field (img : Image) (i j : Nat) : Int := (img.getD i []).getD j 0

/-- Field `j` of entry `i` as a number not below 0. -/
def fieldNat (img : Image) (i j : Nat) : Nat := (field img i j).toNat

/-! ### The table store by id -/

/-- The table of an id. -/
def Tables.get (ts : Tables) : TableId → TableSlot
  | .channels => ts.channels | .scan => ts.scan | .drive => ts.drive | .suction => ts.suction
  | .band => ts.band | .dirt => ts.dirt | .pack => ts.pack | .charge => ts.charge
  | .actions => ts.actions | .system => ts.system

/-- The store with one table replaced. -/
def Tables.put (ts : Tables) (t : TableId) (x : TableSlot) : Tables :=
  match t with
  | .channels => { ts with channels := x }
  | .scan => { ts with scan := x }
  | .drive => { ts with drive := x }
  | .suction => { ts with suction := x }
  | .band => { ts with band := x }
  | .dirt => { ts with dirt := x }
  | .pack => { ts with pack := x }
  | .charge => { ts with charge := x }
  | .actions => { ts with actions := x }
  | .system => { ts with system := x }

/-! ### Fields of the images in use -/

/-- A CHANNELS entry's field (01 R9). -/
def State.channelField (s : State) (ch j : Nat) : Int := field s.tables.channels.active ch j

/-- Debounce of a channel (01 R9). -/
def State.debounce (s : State) (ch : Nat) : Nat := (s.channelField ch 7).toNat

/-- Cause code of a channel's low (`false`) or high (`true`) side; 0 is none (01 R9, 12 section 12.2). -/
def State.sideCause (s : State) (ch : Nat) (high : Bool) : Nat :=
  (s.channelField ch (if high then 6 else 5)).toNat

/-- Slot count of the scan list in use (01 R12). -/
def State.slotCount (s : State) : Nat := fieldNat s.tables.scan.active 0 0

/-- Channel of slot 1..slot count (01 R12). -/
def State.slotChannel (s : State) (slot : Nat) : Nat := fieldNat s.tables.scan.active slot 0

/-- A DRIVE field (02 R21). -/
def State.driveField (s : State) (i : Nat) : Int := field s.tables.drive.active i 0

def State.alignCurrent (s : State) : Int := s.driveField 0
def State.alignTimeMs (s : State) : Nat := (s.driveField 1).toNat
def State.startInterval (s : State) : Int := s.driveField 2
def State.intervalStep (s : State) : Int := s.driveField 3
def State.handoverInterval (s : State) : Nat := (s.driveField 4).toNat
def State.maxOpenSteps (s : State) : Nat := (s.driveField 5).toNat
def State.startRetries (s : State) : Nat := (s.driveField 6).toNat
def State.retryDwellMs (s : State) : Nat := (s.driveField 7).toNat
def State.kp (s : State) : Int := s.driveField 8
def State.ki (s : State) : Int := s.driveField 9
def State.dutyMin (s : State) : Nat := (s.driveField 10).toNat
def State.dutyMax (s : State) : Nat := (s.driveField 11).toNat
def State.foldbackStep (s : State) : Nat := (s.driveField 12).toNat
def State.rampUp (s : State) : Nat := (s.driveField 13).toNat
def State.rampDown (s : State) : Nat := (s.driveField 14).toNat
def State.speedMax (s : State) : Nat := (s.driveField 15).toNat
def State.iMax (s : State) : Nat := (s.driveField 16).toNat

/-- Handover speed of a handover interval: floor(10,000,000 / interval) rpm (02 R18). -/
def handoverSpeedOf (interval : Nat) : Nat := 10000000 / interval

/-- Handover speed of the DRIVE image in use (02 R18). -/
def State.handoverSpeed (s : State) : Nat := handoverSpeedOf s.handoverInterval

/-- A BAND field: upper edge 0, A 1, L 2, blockage minimum 3, blockage dwell 4 (04 R76). -/
def State.bandField (s : State) (row j : Nat) : Nat := fieldNat s.tables.band.active row j

/-- A DIRT field (03 R60). -/
def State.dirtField (s : State) (i : Nat) : Nat := fieldNat s.tables.dirt.active i 0

/-- A PACK field (05 R85). -/
def State.packField (s : State) (i : Nat) : Int := field s.tables.pack.active i 0

/-- A CHARGE settings field: phase count 0, t_min 1, t_low 2, t_max 3, balance_delta 4 (06 R117). -/
def State.chargeSetting (s : State) (j : Nat) : Int := field s.tables.charge.active 0 j

/-- A CHARGE phase field: demand 0, ceiling 1, flags 2, exit test 3, exit value 4, time limit 5, next on exit 6, next
on limit 7 (06 R117). -/
def State.phaseField (s : State) (p j : Nat) : Nat := fieldNat s.tables.charge.active (p + 1) j

/-- Balance flag of a phase (12 section 12.3, bit 0). -/
def State.phaseBalances (s : State) (p : Nat) : Bool := s.phaseField p 2 % 2 = 1

/-- Done flag of a phase (12 section 12.3, bit 1). -/
def State.phaseDone (s : State) (p : Nat) : Bool := s.phaseField p 2 / 2 % 2 = 1

/-- A SYSTEM field (10 R180). -/
def State.systemField (s : State) (i : Nat) : Nat := fieldNat s.tables.system.active i 0

/-- Milliseconds since the last reset, saturating (00 section 4.1). -/
def State.clockMs (s : State) : Nat := s.power.clock / 12000

/-! ### Samples (01 section 1.3) -/

/-- Converted value of a raw sample: base + round((raw - offset) x gain / 1024), clamped to the signed 16-bit range
(01 R4). -/
def convert (entry : List Int) (raw : Nat) : Int :=
  clampInt (-32768) 32767
    (entry.getD 2 0 + roundDiv (((raw : Int) - entry.getD 0 0) * entry.getD 1 0) 1024)

/-- A raw value of 0 or 4095 is saturated (01 R5). -/
def saturated (raw : Nat) : Bool := raw = 0 || raw = 4095

end Sys2Proof.Machine
end

