-- ==== Sys2Proof/Machine/Flags.lean ====
section
/-! DEFINITION. Condition flags, the pending set and the actions in force (08), and the session's set of causes seen
(09 R160). The operations here record; what a TRIP or HOLD imposes on the blocks is in Cascade.lean. -/

namespace Sys2Proof.Machine

/-- Number of a kind: condition kinds 1..16, info kinds 20..27 (08 section 8.1). -/
def kindNum : CauseKind → Nat
  | .overcurrent => 1 | .lostSync => 2 | .startFail => 3 | .bridgeHot => 4 | .blockage => 5
  | .cellOver => 6 | .packEmpty => 7 | .packHot => 8 | .packCold => 9 | .budgetExhausted => 10
  | .chargeTimeout => 11 | .chargeMismatch => 12 | .dockSilent => 13 | .dockOvervolt => 14
  | .linkWatchdog => 15 | .sampleSaturated => 16
  | .docked => 20 | .undocked => 21 | .chargeDone => 22 | .probeDone => 23 | .sessionLogged => 24
  | .modeChanged => 25 | .dockLock => 26 | .tableActivated => 27

/-- The condition kinds, in number order. -/
def conditionKinds : List CauseKind :=
  [.overcurrent, .lostSync, .startFail, .bridgeHot, .blockage, .cellOver, .packEmpty, .packHot, .packCold,
   .budgetExhausted, .chargeTimeout, .chargeMismatch, .dockSilent, .dockOvervolt, .linkWatchdog, .sampleSaturated]

/-- The info kinds, in number order. -/
def infoKinds : List CauseKind :=
  [.docked, .undocked, .chargeDone, .probeDone, .sessionLogged, .modeChanged, .dockLock, .tableActivated]

/-- Every kind, in the order of the kind bitmap's bits (12 section 12.2). -/
def allKinds : List CauseKind := conditionKinds ++ infoKinds

/-- A channel cause kind of its number (01 R8). -/
def channelKind? : Nat → Option CauseKind
  | 1 => some .overcurrent | 4 => some .bridgeHot | 6 => some .cellOver
  | 8 => some .packHot | 9 => some .packCold | 14 => some .dockOvervolt
  | _ => none

/-- Info kinds are momentary (08 section 8.1). -/
def isInfo (k : CauseKind) : Bool := 20 ≤ kindNum k

/-- The kind's condition flag (08 R144); an info kind has none. -/
def State.cond (s : State) (k : CauseKind) : Bool :=
  if isInfo k then false else s.cause.present.getD (kindNum k - 1) false

/-- The condition flags with one kind's flag set or cleared. -/
def State.setCond (s : State) (k : CauseKind) (b : Bool) : State :=
  { s with cause := { s.cause with present := s.cause.present.set (kindNum k - 1) b } }

/-! ### ACTIONS image in use (08 R145) -/

/-- Action code of a condition kind: 0 NOTE, 1 DERATE, 2 HOLD, 3 TRIP. -/
def State.actionOf (s : State) (k : CauseKind) : Nat := fieldNat s.tables.actions.active (kindNum k - 1) 0

/-- Derate current of a condition kind. -/
def State.derateOf (s : State) (k : CauseKind) : Nat := fieldNat s.tables.actions.active (kindNum k - 1) 1

/-- Priority in CAUSE arbitration: the entry's for a condition kind, 0 for an info kind (08 R153). -/
def State.priorityOf (s : State) (k : CauseKind) : Nat :=
  if isInfo k then 0 else fieldNat s.tables.actions.active (kindNum k - 1) 2

/-- Whether an unreported record of the kind calls for attention (08 R154). -/
def State.callsAttention (s : State) (k : CauseKind) : Bool :=
  if isInfo k then s.systemField 6 = 1 else fieldNat s.tables.actions.active (kindNum k - 1) 3 = 1

/-- Floor of a kind's action (08 R145). -/
def actionFloor : CauseKind → Nat
  | .overcurrent => 2 | .bridgeHot => 1 | .cellOver => 2 | .packEmpty => 2 | .packHot => 2
  | .chargeTimeout => 2 | .dockOvervolt => 3
  | _ => 0

/-- An ACTIONS image with each action raised to its floor (08 R146). -/
def raiseToFloors (img : Image) : Image :=
  img.zipIdx.map fun p =>
    match p.1 with
    | a :: rest => max a (actionFloor (conditionKinds.getD p.2 .sampleSaturated) : Int) :: rest
    | [] => []

/-- Whether a present condition has the action (08 R147). -/
def State.actionPresent (s : State) (action : Nat) : Bool :=
  conditionKinds.any fun k => s.cond k && s.actionOf k == action

/-- HOLD is in force while at least one present condition has HOLD as its action in force (08 R148). -/
def State.holdNow (s : State) : Bool := s.actionPresent 2

/-- A condition whose action in force is TRIP is present (08 R150). -/
def State.tripPresent (s : State) : Bool := s.actionPresent 3

/-! ### The pending set (08 section 8.4) -/

/-- The record of a kind. -/
def State.recordOf? (s : State) (k : CauseKind) : Option CauseRecord :=
  s.cause.records.find? fun r => r.kind == k

/-- 08 R151: an occurrence creates the kind's record or counts in it, at 255 the count stays; the reported flag clears
and the detail is replaced. -/
def recordOccurrence (rs : List CauseRecord) (k : CauseKind) (now d d2 : Nat) : List CauseRecord :=
  if rs.any (fun r => r.kind == k) then
    rs.map fun r =>
      if r.kind == k then { r with count := min 255 (r.count + 1), reported := false, detail := d, detail2 := d2 }
      else r
  else rs ++ [{ kind := k, firstMs := now, count := 1, reported := false, detail := d, detail2 := d2 }]

/-- 08 R152: at the end of a condition its record goes when it was reported, and stays otherwise. -/
def recordEnd (rs : List CauseRecord) (k : CauseKind) : List CauseRecord :=
  rs.filter fun r => !(r.kind == k && r.reported)

/-- 09 R160: a kind joins the causes seen once. -/
def joinCause (ks : List CauseKind) (k : CauseKind) : List CauseKind :=
  if ks.contains k then ks else ks ++ [k]

/-- The open session, if any, with a kind among its causes seen (08 R157, 09 R160, R162). -/
def State.seeCause (s : State) (k : CauseKind) : State :=
  { s with log := { s.log with session := s.log.session.map fun a => { a with causes := joinCause a.causes k } } }

/-- One occurrence in the pending set, without the session log (08 R151). -/
def State.noteOccurrence (s : State) (k : CauseKind) (d d2 : Nat) : State :=
  { s with cause := { s.cause with records := recordOccurrence s.cause.records k s.clockMs d d2 } }

/-- One occurrence, recorded in the pending set and handed to the session log (08 R151, R157). -/
def State.occur (s : State) (k : CauseKind) (d d2 : Nat) : State := (s.noteOccurrence k d d2).seeCause k

/-- An info kind is recorded as one occurrence and imposes nothing (08 R144). -/
def State.raiseInfo (s : State) (k : CauseKind) (d d2 : Nat) : State := s.occur k d d2

/-- The end of a condition, raised only from a present one (08 R144, R152). -/
def State.endCond (s : State) (k : CauseKind) : State :=
  if s.cond k then
    { s with cause := { s.cause with
        present := s.cause.present.set (kindNum k - 1) false,
        records := recordEnd s.cause.records k } }
  else s

/-- The attention line is driven low while an unreported record calls for attention; in SHIP it is released (08 R154). -/
def State.attentionLow (s : State) : Bool :=
  decide (s.power.state ≠ .ship) && s.cause.records.any fun r => !r.reported && s.callsAttention r.kind

/-- A set of kinds as a kind bitmap (12 section 12.2): bits 0..15 kinds 1..16, bits 16..23 kinds 20..27. -/
def kindBitmap (p : List CauseKind) : Nat := bitmap (allKinds.map fun k => p.contains k)

end Sys2Proof.Machine
end

