-- ==== Sys2Proof/Machine/Ops.lean ====
section
/-! DEFINITION. The named operations that the steps share: the session log's writes, taking up a table image, bands
and blanking, the state of charge, and the free choices. -/

namespace Sys2Proof.Machine

/-! ### Free choices (log 4) -/

/-- Which of two acts comes first where the spec allows either order inside one step. -/
def State.freeFirst (s : State) : Bool := Config.freeOrder s.freeCtr % 2 = 0

/-- The next free value is a fresh one. -/
def State.freeUsed (s : State) : State := { s with freeCtr := s.freeCtr + 1 }

/-! ### Whether the part acts at all -/

/-- AWAKE and not held in a pin reset. -/
def State.awake (s : State) : Bool := s.power.state == .awake && !s.power.held

/-- AWAKE or SLEEP and not held in a pin reset. -/
def State.live (s : State) : Bool := decide (s.power.state ≠ .ship) && !s.power.held

/-- The motor is in one of the driving states that a withdrawal, trip or overcurrent puts into COAST (02 R18, R20,
R41). -/
def coasting : MotorState → Bool
  | .align => true | .rampOpen => true | .capture => true | .run => true
  | .stopped => false | .coast => false | .lockout => false | .probe => false

/-! ### Session log (09) -/

/-- The sequence number after `n`: after 65535 comes 1 (09 R163). -/
def nextSeqOf (n : Nat) : Nat := if n ≥ 65535 then 1 else n + 1

/-- The sequence number before `n`. -/
def prevSeqOf (n : Nat) : Nat := if n ≤ 1 then 65535 else n - 1

/-- 09 R163: a record takes sequence N and enters the ring as the newest; a full ring drops its oldest; the open session
becomes none; SESSION_LOGGED is raised. -/
def State.writeRecord (s : State) (r : LogRecord) : State :=
  let full := decide (32 ≤ s.log.ring.length)
  let s1 : State := { s with log := { s.log with
    ring := (if full then s.log.ring.drop 1 else s.log.ring) ++ [{ r with seq := s.log.nextSeq }],
    drops := if full then satCount (s.log.drops + 1) else s.log.drops,
    nextSeq := nextSeqOf s.log.nextSeq,
    session := none } }
  s1.raiseInfo .sessionLogged 0 0

/-- The charge delta of a record: the charge sum negated, in mAh, rounded and clamped (09 section 9.2). -/
def chargeDelta (sum : Int) : Int := clampInt (-32768) 32767 (roundDiv (-sum) 3600000)

/-- Whole seconds of a time in ticks, saturating at 65535 (09 section 9.2). -/
def secondsField (ticks : Nat) : Nat := satCount (ticks / ticksOfS 1)

/-- The common fields of a record at a close (09 section 9.2). -/
def State.commonFields (s : State) (a : Session) : CommonFields where
  duration := (s.clockMs - a.openMs) / 1000
  startSoc := a.startSoc
  endSoc := s.pack.soc
  chargeDelta := chargeDelta a.chargeSum
  causes := a.causes

/-- The CLEAN fields of a record at a close (09 section 9.2). -/
def cleanFields (a : Session) : CleanFields where
  runS := secondsField a.runTime
  bins := a.bins
  rejected := a.rejected
  cont := a.cont
  peakLevel := a.peakLevel
  ecoS := secondsField a.ecoTime
  autoS := secondsField a.autoTime
  boostS := secondsField a.boostTime
  starts := a.starts

/-- 09 R161: the open CLEAN session, if any, closes with a reason. -/
def State.closeClean (s : State) (why : EndReason) : State :=
  match s.log.session with
  | some a =>
    if a.kind = .clean then
      s.writeRecord { seq := 0, kind := .clean, reason := why, common := some (s.commonFields a),
                      clean := some (cleanFields a), charge := none, learned := none }
    else s
  | none => s

/-- The accumulator of a session at its opening (09 R159, R162). -/
def State.newSession (s : State) (kind : SessionKind) : Session where
  kind := kind
  openMs := s.clockMs
  startSoc := s.pack.soc
  chargeSum := 0
  causes := []
  runTime := 0
  starts := 1
  bins := List.replicate 6 0
  rejected := 0
  cont := 0
  peakLevel := s.dirt.level
  ecoTime := 0
  autoTime := 0
  boostTime := 0
  learned := none

/-- A motor start opens a CLEAN session when none is open, and counts in an open one (09 R159, R160). -/
def State.logMotorStart (s : State) : State :=
  match s.log.session with
  | none => { s with log := { s.log with session := some (s.newSession .clean), idleTime := 0 } }
  | some a =>
    if a.kind = .clean then
      { s with log := { s.log with session := some { a with starts := satCount (a.starts + 1) } } }
    else s

/-- The idle time is 0 while the motor is not STOPPED (09 R161). -/
def State.leaveStopped (s : State) : State := { s with log := { s.log with idleTime := 0 } }

/-! ### Table store (10 section 10.4) -/

/-- A table of the store replaced. -/
def State.putTable (s : State) (t : TableId) (x : TableSlot) : State := { s with tables := s.tables.put t x }

/-- 10 R177: a pending image becomes the active one, and TABLE_ACTIVATED is raised with the table id. -/
def State.takeUp (s : State) (t : TableId) : State :=
  match (s.tables.get t).waiting with
  | some img =>
    (s.putTable t { s.tables.get t with active := img, waiting := none }).raiseInfo .tableActivated (tableNum t) 0
  | none => s

/-- Whether an activation of the table is pending. -/
def State.isPending (s : State) (t : TableId) : Bool := isHeld (s.tables.get t).waiting

/-- 10 R178: a CHARGE staging image owned by the dock is restored from active and released. -/
def State.restoreDockStaging (s : State) : State :=
  if s.tables.charge.owner = some .dock then
    s.putTable .charge { s.tables.charge with staging := s.tables.charge.active, owner := none }
  else s

/-! ### Bands and blanking (03 R46, R64; 04 R77, R79) -/

/-- A band change's work in the dirt unit: A and L of the band, and a band blank of 50 ms. -/
def State.loadBand (s : State) : State :=
  { s with dirt := { s.dirt with
      armA := s.bandField s.plan.band 1,
      relL := s.bandField s.plan.band 2,
      bandBlank := some (ticksOfMs 50) } }

/-- The band index set to `b`; a move is one band change. -/
def State.setBand (s : State) (b : Nat) : State :=
  if s.plan.band = b then s else ({ s with plan := { s.plan with band := b } }).loadBand

/-- The planner at an exit from RUN: band 0, both blockage times 0, BLOCKAGE ends (04 R79, R82). -/
def State.planRunExit (s : State) : State :=
  let s1 := s.setBand 0
  ({ s1 with plan := { s1.plan with lowTime := 0, recTime := 0 } }).endCond .blockage

/-- The ramp's goal (02 R37). -/
def State.rampGoal (s : State) : Nat :=
  if s.plan.sReq = 0 then 0 else max s.plan.sReq s.handoverSpeed

/-- The ramp is busy while S_t differs from the goal (02 R37). -/
def State.rampBusy (s : State) : Bool := decide (s.drive.sT ≠ s.rampGoal)

/-- Blanking in force at a PZ sample (03 R46). -/
def State.blanking (s : State) : Bool := s.rampBusy || isHeld s.dirt.bandBlank

/-! ### DRIVE changeover (02 R23) -/

/-- S_t is clamped to speed_max and, in RUN, duty to duty_min..duty_max. -/
def State.driveChangeover (s : State) : State :=
  { s with drive := { s.drive with
      sT := min s.drive.sT s.speedMax,
      duty := if s.drive.motor = .run then min s.dutyMax (max s.dutyMin s.drive.duty) else s.drive.duty } }

/-- A deferred DRIVE image is taken up. -/
def State.takeUpDrive (s : State) : State :=
  if s.isPending .drive then (s.takeUp .drive).driveChangeover else s

/-! ### State of charge (05 R97, R98) -/

/-- Bounds of learned capacity in mA ms: `pct` of Q_design in whole mAh (05 R97). -/
def State.capacityBound (s : State) (pct : Int) : Int := floorDiv (s.packField 10 * pct) 100 * 3600000

/-- SoC of a charge count: floor(Q x 100 / Q_full), 255 while unknown (05 R98). -/
def socOf (q : Option Int) (qFull : Int) : Nat :=
  match q with
  | some x => (floorDiv (x * 100) qFull).toNat
  | none => 255

/-- Reserve state with its hysteresis of 3 points (05 R98). -/
def reserveOf (was : Bool) (soc pct : Nat) : Bool :=
  if soc = 255 then false
  else if was then decide (soc < pct + 3)
  else decide (soc ≤ pct)

/-- SoC and reserve state formed again (05 R98). -/
def State.formSoc (s : State) : State :=
  let soc := socOf s.pack.q s.pack.qFull
  { s with pack := { s.pack with soc := soc, reserve := reserveOf s.pack.reserve soc (s.packField 9).toNat } }

/-- 05 R87, R108: R_i, Q_full and Q brought within the PACK image in use. -/
def State.clampPack (s : State) : State :=
  let qFull := clampInt (s.capacityBound 50) (s.capacityBound 110) s.pack.qFull
  { s with pack := { s.pack with
      r := s.pack.r.map (clampInt (s.packField 4) (s.packField 5)),
      qFull := qFull,
      q := s.pack.q.map (clampInt 0 qFull),
      clampDue := false } }

/-- 05 R96: the empty anchor. -/
def State.emptyAnchor (s : State) : State :=
  ({ s with pack := { s.pack with q := some 0, emptyMark := true } }).formSoc

/-- 05 R97: the capacity learned at a full anchor, when the empty mark stood at the session's opening and still does. -/
def State.learnCapacity (s : State) : State :=
  if s.pack.emptyAtOpen && s.pack.emptyMark then
    let qFull := clampInt (s.capacityBound 50) (s.capacityBound 110) s.pack.sessCharge
    { s with
      pack := { s.pack with qFull := qFull, q := s.pack.q.map (clampInt 0 qFull) },
      log := { s.log with
        session := s.log.session.map fun a => { a with learned := some (floorDiv qFull 3600000).toNat } } }
  else s

/-- 05 R96: the full anchor. -/
def State.fullAnchor (s : State) : State :=
  let s1 := s.learnCapacity
  ({ s1 with pack := { s1.pack with q := some s1.pack.qFull, emptyMark := false } }).formSoc

/-- The figures as they stand, for a report. -/
def Pack.asReport (p : Pack) : PackReport where
  r := p.r
  q := p.q
  qFull := p.qFull
  soc := p.soc

/-- Telemetry reports the pack's figures as they stand now, at the end of a scan completion (05 R107). -/
def State.keepReport (s : State) : State := { s with pack := { s.pack with report := s.pack.asReport } }

/-! ### Saturating counts -/

/-- The frame unit's counts changed. -/
def State.withCounts (s : State) (f : LinkCounts → LinkCounts) : State :=
  { s with frame := { s.frame with counts := f s.frame.counts } }

end Sys2Proof.Machine
end

