-- ==== Sys2Proof/Machine/Cascade.lean ====
section
/-! DEFINITION. What one event brings about across the blocks: motor transitions (02), the pack path (06), the end of a
probe (05), the trip latch and the onset of a condition (08), and `settled`, which forms again whatever the event's
changes call for: HOLD, keep-alive activity, path, run request, S_req, run demand, cap, idle timer (log 13). -/

namespace Sys2Proof.Machine

/-! ### Run request (04 R71) -/

/-- 04 R71; an accepted SHIP holds the run request down (11 R186). -/
def State.runRequestNow (s : State) : Bool :=
  s.plan.trigger && s.plan.permit && decide (s.charge.presence ≠ .present) && decide (s.charge.path = .discharge) &&
  !s.holdNow && !s.cause.trip && decide (s.power.state = .awake) && decide (s.power.settle = none) &&
  decide (s.drive.motor ≠ .lockout) && !s.plan.exhausted && !s.power.shipPending

/-! ### Motor transitions (02) -/

/-- The drive unit's record at an entry into COAST: bridge off, S_t 0, foldback hold off, crossing count 0; S_m keeps
its value (02 R35, R37, R40; log 7). -/
def Drive.toCoast (d : Drive) : Drive :=
  { d with
    motor := .coast, duty := 0, sT := 0, hold := none, foldMark := false, revCount := 0,
    revTime := d.crossTime, revKnown := d.crossKnown, quiet := 0, nextComm := none, armed := false,
    stopCross := none }

/-- Entry into COAST; leaving RUN is also the planner's RUN exit, and a deferred DRIVE image is taken up (02 R23, 04
R79). -/
def State.enterCoast (s : State) : State :=
  let s1 : State := { s with drive := s.drive.toCoast }
  (if s.drive.motor = .run then s1.planRunExit else s1).takeUpDrive

/-- The drive unit's record in STOPPED (02 R25). While a retry dwell runs, its start still waits for STOPPED: crossings
may bring COAST back before the dwell ends (02 R29). -/
def Drive.toStopped (d : Drive) : Drive :=
  { d with
    motor := .stopped, duty := 0, sT := 0, sM := 0, hold := none, foldMark := false,
    waitStop := d.waitStop && isHeld d.retry,
    nextComm := none, armed := false, stopCross := none }

/-- The drive unit's record at the beginning of a start sequence (02 R25, R26). -/
def Drive.toAlign (d : Drive) : Drive :=
  { d with
    motor := .align, step := 1, duty := 0, sM := 0, sT := 0, stateTime := 0, crossKnown := false,
    waitStop := false, stopCross := none }

/-- A start sequence begins; it is a motor start (02 R25). -/
def State.startSequence (s : State) : State :=
  ({ s with drive := s.drive.toAlign }).leaveStopped.logMotorStart

/-- The run demand still has what the run request needs: an abort by HOLD, trip or dock starts nothing (04 R71, 05
R106). -/
def State.mayStart (s : State) : Bool := s.drive.demand && s.runRequestNow && !s.tripPresent

/-- A start begins in STOPPED with the run demand up and no retry dwell (02 R25), the path DISCHARGE (02 R19). -/
def State.startIfDue (s : State) : State :=
  if s.drive.motor = .stopped ∧ s.drive.retry = none ∧ s.mayStart = true then s.startSequence else s

/-! ### Pack path (06) -/

/-- The path enters OPEN and its dwell starts at 5 ms (06 R109). -/
def State.openPath (s : State) : State :=
  { s with charge := { s.charge with path := .opened, dwell := some (ticksOfMs 5) } }

/-- 06 R110: the path enters OPEN from DISCHARGE. -/
def State.openFromDischarge (s : State) : State :=
  if s.charge.path = .discharge then s.openPath else s

/-- The record of a closed CHARGE session (06 R123, 09 R162). -/
def State.chargeRecord (s : State) (a : Session) (why : EndReason) : LogRecord where
  seq := 0
  kind := .charge
  reason := why
  common := some (s.commonFields a)
  clean := none
  charge := some (s.charge.highest, secondsField s.charge.bleedTime)
  learned := a.learned

/-- The open CHARGE session's record is written (06 R123). -/
def State.closeChargeLog (s : State) (why : EndReason) : State :=
  match s.log.session with
  | some a => if a.kind = .charge then s.writeRecord (s.chargeRecord a why) else s
  | none => s

/-- 06 R111, R123: from CHARGE the path enters OPEN, D goes to 0, every bleed switch turns off, the session closes with
its reason, and a pending CHARGE image is taken up. The phase time stands as it was: log 47, the model's choice. -/
def State.openFromCharge (s : State) (why : EndReason) : State :=
  if s.charge.path = .charge then
    let s1 := s.openPath
    let s2 : State := { s1 with charge := { s1.charge with demand := 0, bleed := List.replicate 7 false } }
    let s3 := s2.closeChargeLog why
    ({ s3 with charge := { s3.charge with session := none, cap := 0 } }).takeUp .charge
  else s

/-! ### STOPPED and the end of a probe -/

/-- Entry into STOPPED: LOST_SYNC ends, a deferred DRIVE image is taken up, and a path that waits for the motor at dock
presence opens (02 R23, R34, R35; 06 R110). A motor start comes after it, and so does the CLEAN session it opens: log 52,
the model's choice. -/
def State.restStopped (s : State) : State :=
  let s1 := (({ s with drive := s.drive.toStopped }).endCond .lostSync).takeUpDrive
  if s1.charge.presence = .present then s1.openFromDischarge else s1

/-- Entry into STOPPED, with the start that follows when the run demand is up (02 R25). -/
def State.enterStopped (s : State) : State := s.restStopped.startIfDue

/-- Code of a probe result (05 R105). -/
def probeCode : ProbeResult → Nat
  | .done => 0 | .abortedTrigger => 1 | .abortedDock => 2 | .abortedFault => 3

/-- The end of a probe (05 R105, R106): the motor STOPPED, the probe IDLE, its result kept, PROBE_DONE raised; the
resistance step stays suspended through the completion that begins next, and through one under work. -/
def State.endProbe (s : State) (why : ProbeResult) (flagged : List Bool) : State :=
  let s1 := s.restStopped
  let s2 : State := { s1 with pack := { s1.pack with
    probe := .idle, probeTime := 0, before := none, inside := none, figures := [],
    lastProbe := some { result := why, flagged := flagged }, skipEst := true } }
  (s2.raiseInfo .probeDone (probeCode why) (bitmap flagged)).startIfDue

/-- An abort event finds a probe under way or acts on nothing (05 R106). -/
def State.abortProbe (s : State) (why : ProbeResult) : State :=
  if s.drive.motor = .probe then s.endProbe why (List.replicate 7 false) else s

/-- 02 R30: LOCKOUT ends into COAST and START_FAIL ends. -/
def State.endLockout (s : State) : State :=
  if s.drive.motor = .lockout then s.enterCoast.endCond .startFail else s

/-- A running retry dwell is cancelled. -/
def State.cancelRetry (s : State) : State := { s with drive := { s.drive with retry := none } }

/-! ### Trip latch and onsets (08) -/

/-- The drive unit at the setting of the trip latch (02 R20). -/
def State.tripDrive (s : State) : State :=
  (if coasting s.drive.motor then s.enterCoast else s.endLockout).cancelRetry

/-- 08 R149: the trip latch is set: the bridge goes off, a probe ends ABORTED_FAULT, the path opens. -/
def State.setTrip (s : State) : State :=
  if s.cause.trip then s
  else
    let s1 : State := { s with cause := { s.cause with trip := true } }
    ((s1.tripDrive.abortProbe .abortedFault).openFromDischarge).openFromCharge .trip

/-- The drive unit at an OVERCURRENT onset, whatever its action (02 R41). -/
def State.overcurrentOff (s : State) : State :=
  (if coasting s.drive.motor then s.enterCoast else s.abortProbe .abortedFault).cancelRetry

/-- 08 R144: the onset of a condition, raised only from an absent one: flag, occurrence, and the setting of the trip
latch for a TRIP action. HOLD is imposed by `settled`; DERATE at the next scan completion. -/
def State.raise (s : State) (k : CauseKind) (d : Nat) : State :=
  if s.cond k then s
  else
    let s1 := (s.setCond k true).occur k d 0
    let s2 := if k = .overcurrent then s1.overcurrentOff else s1
    if s1.actionOf k = 3 then s2.setTrip else s2

/-! ### Failed attempts (02 R29, R30, R34) -/

/-- 02 R30: LOCKOUT entry raises START_FAIL. -/
def State.enterLockout (s : State) : State :=
  ({ s with drive := { s.drive with motor := .lockout } }).raise .startFail 0

/-- 02 R29: a failed attempt. -/
def State.failAttempt (s : State) : State :=
  let s1 := s.enterCoast
  let n := s1.drive.attempts + 1
  let s2 : State := { s1 with drive := { s1.drive with attempts := n } }
  if n > s1.startRetries then s2.enterLockout
  else if s2.drive.demand then
    { s2 with drive := { s2.drive with retry := some (ticksOfMs s2.retryDwellMs), waitStop := true } }
  else s2

/-! ### Charge session (06) -/

/-- The higher and lower pack thermistor of the latest completed scan (06 R124). -/
def State.tempHigh (s : State) : Int := match s.acq.lastSet with | some x => max x.tp1 x.tp2 | none => 0
def State.tempLow (s : State) : Int := match s.acq.lastSet with | some x => min x.tp1 x.tp2 | none => 0

/-- The temperature term of the cap (06 R124). -/
def State.tempTerm (s : State) (demand : Nat) : Nat :=
  if s.tempLow < s.chargeSetting 1 ∨ s.chargeSetting 3 < s.tempHigh then 0
  else if s.tempLow < s.chargeSetting 2 then demand / 2
  else demand

/-- The dock term of the cap (06 R124); the path is CHARGE only with a record held. -/
def State.dockTerm (s : State) : Nat := match s.charge.dock with | some r => r.maxCurrent | none => 0

/-- The cap C (06 R124). -/
def State.capOf (s : State) : Nat :=
  match s.charge.session with
  | none => 0
  | some x =>
    if s.holdNow || s.cause.trip || s.cond .dockSilent || x.faulted then 0
    else min (s.phaseField x.phase 0) (min s.dockTerm (s.tempTerm (s.phaseField x.phase 0)))

/-- Whenever C is formed, D becomes the smaller of D and C (06 R124). -/
def State.formCap (s : State) : State :=
  { s with charge := { s.charge with cap := s.capOf, demand := min s.charge.demand s.capOf } }

/-- 06 R120: a phase entry. -/
def State.enterPhase (s : State) (p : Nat) : State :=
  let s1 : State := { s with charge := { s.charge with
    session := some { faulted := false, phase := p }, phaseTime := 0, below := 0, demand := 0,
    highest := max s.charge.highest p } }
  let s2 := s1.formCap
  if s2.phaseDone p then (s2.raiseInfo .chargeDone 0 0).fullAnchor else s2

/-- 06 R112, R120: the path enters CHARGE and a session opens in phase 0. -/
def State.openCharge (s : State) : State :=
  let s1 : State := { s with
    charge := { s.charge with path := .charge, highest := 0, bleedTime := 0 },
    pack := { s.pack with sessCharge := 0, emptyAtOpen := s.pack.emptyMark },
    log := { s.log with session := some (s.newSession .charge) } }
  s1.enterPhase 0

/-- 06 R112: once the OPEN dwell has ended, the next path is chosen from the conditions as they stand. -/
def State.choosePath (s : State) : State :=
  if s.charge.path = .opened ∧ s.charge.dwell = none ∧ s.power.state = .awake ∧ s.cause.trip = false then
    match s.charge.presence with
    | .absent => { s with charge := { s.charge with path := .discharge } }
    | .present => if isHeld s.charge.dock then s.openCharge else s
    | .undecided => s
  else s

/-! ### Speed request, run demand (04 R75; 02 R18) -/

/-- Mode code (04 R69). -/
def modeCode : Mode → Nat
  | .eco => 0 | .auto => 1 | .boost => 2

/-- 04 R75: S_req for a run request. -/
def State.speedRequestNow (s : State) (up : Bool) : Nat :=
  if up then
    let level := if s.cond .blockage then 0 else s.dirt.level
    min s.speedMax
      (fieldNat s.tables.suction.active (modeCode s.plan.mode * 4 + level) (if s.pack.reserve then 1 else 0))
  else 0

/-- 02 R18: a fresh run demand. -/
def State.freshDemand (s : State) : State :=
  let s1 : State := { s with drive := { s.drive with demand := true, attempts := 0, retry := none, waitStop := false } }
  if s1.drive.motor = .probe then s1.abortProbe .abortedTrigger else s1.startIfDue

/-- 02 R18: a withdrawal. -/
def State.withdraw (s : State) : State :=
  let s1 : State := { s with drive := { s.drive with demand := false, retry := none } }
  if coasting s1.drive.motor then s1.enterCoast else s1

/-! ### What an event's changes call for -/

/-- 08 R155: the keep-alive check is active. -/
def State.keepActive (s : State) : Bool :=
  decide (s.power.state = .awake) && s.plan.permit && decide (s.systemField 4 = 1)

/-- 08 R155: the window starts when the check becomes active; it goes IDLE, and LINK_WATCHDOG ends, when the check
becomes inactive. -/
def State.formKeep (s : State) : State :=
  if s.keepActive then
    (if s.frame.keep = .idle then { s with frame := { s.frame with keep := .running true 0 } } else s)
  else if s.frame.keep = .idle then s
  else ({ s with frame := { s.frame with keep := .idle } }).endCond .linkWatchdog

/-- 08 R148: HOLD comes into force or ends; a probe under way ends ABORTED_FAULT when it comes into force. -/
def State.formHold (s : State) : State :=
  if s.holdNow = s.cause.hold then s
  else
    let s1 : State := { s with cause := { s.cause with hold := s.holdNow } }
    if s1.cause.hold then s1.abortProbe .abortedFault else s1

/-- 04 R71, R75: the run request and S_req formed again. -/
def State.formRequest (s : State) : State :=
  { s with plan := { s.plan with runReq := s.runRequestNow, sReq := s.speedRequestNow s.runRequestNow } }

/-- 02 R18: a rise of the run demand is a fresh run demand, a fall a withdrawal. -/
def State.formDemand (s : State) : State :=
  let d := s.plan.runReq && decide (0 < s.plan.sReq)
  if d = s.drive.demand then s else if d then s.freshDemand else s.withdraw

/-- 11 R184: the idle timer's conditions. -/
def State.idleRuns (s : State) : Bool :=
  decide (s.power.state = .awake) && decide (s.drive.motor = .stopped) && decide (s.charge.presence = .absent) &&
  decide (s.systemField 5 ≠ 0) && !s.power.shipPending

/-- 11 R184: the idle timer starts from 0 when its conditions hold again and is idle while one fails. -/
def State.formIdle (s : State) : State :=
  if s.idleRuns then
    (if s.power.idleTimer = none then { s with power := { s.power with idleTimer := some 0 } } else s)
  else { s with power := { s.power with idleTimer := none } }

/-- Everything formed again once. -/
def State.formAll (s : State) : State :=
  s.formKeep.formHold.choosePath.formRequest.formDemand.formCap.formIdle

/-- Everything formed again after an event. The second round takes up what the first one ended, as when a RUN exit ends
a BLOCKAGE that held the run request down (04 R81); nothing is left for a third (log 13). -/
def State.settled (s : State) : State := s.formAll.formAll

end Sys2Proof.Machine
end

