-- ==== Sys2Proof/Machine/Acquire.lean ====
section
/-! DEFINITION. The acquisition unit's shared work (01): one sample through conversion, saturation and limits, and the
start of a scan with the take-up of pending CHANNELS and SCAN images. -/

namespace Sys2Proof.Machine

/-! ### Saturation and limits (01 R5, R7, R8) -/

/-- A channel's latest value and saturation flag replaced; SAMPLE_SATURATED begins with the first flag set and ends with
the last one cleared (01 R4, R5). -/
def State.storeSample (s : State) (ch : Nat) (v : Int) (sat : Bool) : State :=
  let s1 : State := { s with acq := { s.acq with latest := s.acq.latest.set ch v, sat := s.acq.sat.set ch sat } }
  if anyMark s1.acq.sat = anyMark s.acq.sat then s1
  else if anyMark s1.acq.sat then s1.raise .sampleSaturated ch
  else s1.endCond .sampleSaturated

/-- Present side condition of a channel (01 R7). -/
def State.sideOn (s : State) (ch : Nat) (high : Bool) : Bool :=
  (if high then s.acq.highOn else s.acq.lowOn).getD ch false

/-- Debounce count of a channel's side (01 R7). -/
def State.sideCount (s : State) (ch : Nat) (high : Bool) : Nat :=
  (if high then s.acq.highCount else s.acq.lowCount).getD ch 0

/-- A side's count and condition replaced. -/
def State.setSide (s : State) (ch : Nat) (high : Bool) (count : Nat) (on : Bool) : State :=
  if high then
    { s with acq := { s.acq with highCount := s.acq.highCount.set ch count, highOn := s.acq.highOn.set ch on } }
  else
    { s with acq := { s.acq with lowCount := s.acq.lowCount.set ch count, lowOn := s.acq.lowOn.set ch on } }

/-- A value is beyond a side's limit; a value equal to the limit is within it (01 R7). -/
def State.beyond (s : State) (ch : Nat) (high : Bool) (v : Int) : Bool :=
  if high then decide (s.channelField ch 4 < v) else decide (v < s.channelField ch 3)

/-- A side naming the kind holds a present side condition (01 R8). -/
def State.sideHolds (s : State) (k : CauseKind) : Bool :=
  (List.range 16).any fun ch =>
    (s.sideOn ch false && s.sideCause ch false == kindNum k) ||
    (s.sideOn ch true && s.sideCause ch true == kindNum k)

/-- The channel cause kinds (01 R8). -/
def channelKinds : List CauseKind := [.overcurrent, .bridgeHot, .cellOver, .packHot, .packCold, .dockOvervolt]

/-- A kind's condition ends when no side holds it any longer (01 R8). -/
def State.endUnheld (s : State) (k : CauseKind) : State := if s.sideHolds k then s else s.endCond k

/-- Whether a checked side would change its condition at a value. -/
def State.sideChanges (s : State) (ch : Nat) (high : Bool) (v : Int) : Bool :=
  decide (s.sideCause ch high ≠ 0) &&
  (if s.beyond ch high v then !s.sideOn ch high && decide (s.debounce ch ≤ s.sideCount ch high + 1)
   else s.sideOn ch high)

/-- One side checked (01 R7, R8); a side whose cause is none is not checked. -/
def State.checkSide (s : State) (ch : Nat) (high : Bool) (v : Int) : State :=
  match channelKind? (s.sideCause ch high) with
  | none => s
  | some k =>
    if s.beyond ch high v then
      let n := min (s.debounce ch) (s.sideCount ch high + 1)
      let on := s.sideOn ch high || decide (s.debounce ch ≤ n)
      let s1 := s.setSide ch high n on
      if on && !s.sideOn ch high then s1.raise k ch else s1
    else
      let s1 := s.setSide ch high 0 false
      if s.sideOn ch high then s1.endUnheld k else s1

/-- Both sides checked. Only where both change at one sample does their order matter, and the spec gives none (log 4). -/
def State.checkSides (s : State) (ch : Nat) (v : Int) : State :=
  if s.sideChanges ch false v && s.sideChanges ch true v then
    (if s.freeFirst then (s.freeUsed.checkSide ch true v).checkSide ch false v
     else (s.freeUsed.checkSide ch false v).checkSide ch true v)
  else (s.checkSide ch false v).checkSide ch true v

/-- The entry that converts a channel's samples (01 R9). -/
def State.channelEntry (s : State) (ch : Nat) : List Int := s.tables.channels.active.getD ch []

/-- One sample: conversion and saturation, latest value and flag, both limits (01 R1, R2). -/
def State.takeSample (s : State) (ch raw : Nat) : State :=
  let v := convert (s.channelEntry ch) raw
  (s.storeSample ch v (saturated raw)).checkSides ch v

/-- Whether a sample changes a flag or a side condition, so that its place among the samples of its frame matters. -/
def State.sampleChanges (s : State) (ch raw : Nat) : Bool :=
  let v := convert (s.channelEntry ch) raw
  decide (s.acq.sat.getD ch false ≠ saturated raw) || s.sideChanges ch false v || s.sideChanges ch true v

/-- An order of three samples for a free choice. -/
def orderOfThree (n : Nat) (a b c : Nat × Nat) : List (Nat × Nat) :=
  match n % 6 with
  | 0 => [a, b, c] | 1 => [a, c, b] | 2 => [b, a, c] | 3 => [b, c, a] | 4 => [c, a, b] | _ => [c, b, a]

/-- The three fast samples of one frame. Where at least two of them change something, either may be processed first (01
R5, R8): the order is free (log 4). -/
def State.takeFast (s : State) (ibus iph pz : Nat) : State :=
  let c0 := s.sampleChanges 0 ibus
  let c1 := s.sampleChanges 1 iph
  let c2 := s.sampleChanges 2 pz
  if (c0 && c1) || (c0 && c2) || (c1 && c2) then
    (orderOfThree (Config.freeOrder s.freeCtr) (0, ibus) (1, iph) (2, pz)).foldl
      (fun t p => t.takeSample p.1 p.2) s.freeUsed
  else ((s.takeSample 0 ibus).takeSample 1 iph).takeSample 2 pz

/-! ### Scan start (01 R2, R3, R11, R14, R15) -/

/-- The channels of the slots in use. -/
def scanChannels (img : Image) : List Nat :=
  (List.range (fieldNat img 0 0)).map fun i => fieldNat img (i + 1) 0

/-- Side conditions that survive a CHANNELS changeover: those whose cause the new entry names for the same side (01
R11). -/
def keptSides (old new : Image) (causeField : Nat) (on : List Bool) : List Bool :=
  on.zipIdx.map fun p =>
    p.1 && (fieldNat new p.2 causeField == fieldNat old p.2 causeField) && decide (fieldNat new p.2 causeField ≠ 0)

/-- 01 R11: a pending CHANNELS image is taken up. -/
def State.takeUpChannels (s : State) : State :=
  if s.isPending .channels then
    let old := s.tables.channels.active
    let s1 := s.takeUp .channels
    let new := s1.tables.channels.active
    let s2 : State := { s1 with acq := { s1.acq with
      lowCount := List.replicate 16 0, highCount := List.replicate 16 0,
      lowOn := keptSides old new 5 s1.acq.lowOn, highOn := keptSides old new 6 s1.acq.highOn } }
    channelKinds.foldl State.endUnheld s2
  else s

/-- 01 R14: a list with the places of absent slow channels replaced. -/
def clearAbsent {α : Type} (present : List Nat) (x : α) (xs : List α) : List α :=
  xs.zipIdx.map fun p => if 3 ≤ p.2 && !present.contains p.2 then x else p.1

/-- 01 R14: a pending SCAN image is taken up; each slow channel absent from the new list loses its live state. -/
def State.takeUpScan (s : State) : State :=
  if s.isPending .scan then
    let s1 := s.takeUp .scan
    let chs := scanChannels s1.tables.scan.active
    let s2 : State := { s1 with acq := { s1.acq with
      lowCount := clearAbsent chs 0 s1.acq.lowCount, highCount := clearAbsent chs 0 s1.acq.highCount,
      lowOn := clearAbsent chs false s1.acq.lowOn, highOn := clearAbsent chs false s1.acq.highOn,
      sat := clearAbsent chs false s1.acq.sat } }
    let s3 := channelKinds.foldl State.endUnheld s2
    if anyMark s3.acq.sat then s3 else s3.endCond .sampleSaturated
  else s

/-- Pending CHANNELS and SCAN images are taken up together (01 R14); which is reported first is free (log 4). -/
def State.takeUpScanTables (s : State) : State :=
  if s.isPending .channels && s.isPending .scan then
    (if s.freeFirst then s.freeUsed.takeUpScan.takeUpChannels else s.freeUsed.takeUpChannels.takeUpScan)
  else s.takeUpChannels.takeUpScan

/-- The acquisition unit at the start of a scan (01 R2, R15). -/
def Acq.begin (a : Acq) (asleep : Bool) : Acq :=
  { a with
    scanning := true, scanFresh := true, scanAsleep := asleep, scanInPulse := true, scanTime := 0,
    slotIndex := 0, slotFrames := 0, scanVals := List.replicate 16 none, scanSat := List.replicate 7 false,
    accSum := 0, accCount := 0 }

/-- A scan starts; pending CHANNELS and SCAN images are taken up there. -/
def State.startScan (s : State) : State :=
  let s1 := s.takeUpScanTables
  { s1 with acq := s1.acq.begin (s1.power.state == .sleep) }

/-- In AWAKE each scan starts at the instant the previous one completes (01 R3). -/
def State.startScanIfAwake (s : State) : State :=
  if s.awake && !s.acq.scanning then s.startScan else s

end Sys2Proof.Machine
end

