-- ==== Sys2Proof/Machine/Modes.lean ====
section
/-! DEFINITION. Changes of power state and resets (11): SLEEP entry, wake, SHIP entry, the four resets, and what ends
with them in the other blocks (03 R65, 07 R142, 09 R167, 10 R181). -/

namespace Sys2Proof.Machine

/-! ### Dirt unit, modem and telemetry at a change of power state -/

/-- The window under way abandoned or begun afresh, the detector QUIET (03 R65). -/
def Dirt.freshWindow (d : Dirt) : Dirt :=
  { d with
    det := Detector.quiet, winSamples := 0, winBlanked := 0, bins := List.replicate 6 0, rejected := 0,
    contTally := 0, optSum := 0, optCount := 0 }

/-- The modem stops (07 R142). -/
def Modem.stopped (m : Modem) : Modem :=
  { m with
    carrier := false, toneRun := 0, silRun := 0, rx := .off, breakDue := false, bitsSince := 0, fifo := [],
    overrun := false, buf := none, window := none, tx := none }

/-- The telemetry timer starts at the period when the group mask is not 0 (10 R181). -/
def State.startTelemetry (s : State) : State :=
  { s with frame := { s.frame with
      telTimer := if s.systemField 0 = 0 then none else some (ticksOfMs (s.systemField 1)) } }

/-! ### Reset (11 R188, R189) -/

/-- The planner after a reset; the mode is kept over a soft reset, the input pins over every reset (04 R84). -/
def Plan.afterReset (p : Plan) (kind : ResetKind) : Plan :=
  { Plan.reset with
    trigRaw := p.trigRaw, btnRaw := p.btnRaw,
    mode := if kind = .soft then p.mode else .auto }

/-- The pack monitor after a reset (05 R108); telemetry then reports what it holds (10 R181). -/
def Pack.afterReset (p : Pack) (kind : ResetKind) : Pack :=
  if kind = .powerOn then Pack.reset
  else
    { Pack.reset with
      r := p.r, q := p.q, qFull := p.qFull, emptyMark := p.emptyMark, soc := p.soc, reserve := p.reserve,
      clampDue := kind ≠ .soft, report := p.asReport }

/-- A table after a reset (11 R189): built-in, or kept by a soft reset with staging copied from active. -/
def TableSlot.afterReset (x : TableSlot) (t : TableId) (kind : ResetKind) : TableSlot :=
  if kind = .soft then { active := x.active, staging := x.active, owner := none, waiting := none }
  else TableSlot.builtin t

/-- The table store after a reset; the ACTIONS image with each action raised to its floor (11 R189, 08 R158). -/
def Tables.afterReset (ts : Tables) (kind : ResetKind) : Tables where
  channels := ts.channels.afterReset .channels kind
  scan := ts.scan.afterReset .scan kind
  drive := ts.drive.afterReset .drive kind
  suction := ts.suction.afterReset .suction kind
  band := ts.band.afterReset .band kind
  dirt := ts.dirt.afterReset .dirt kind
  pack := ts.pack.afterReset .pack kind
  charge := ts.charge.afterReset .charge kind
  actions :=
    { ts.actions.afterReset .actions kind with active := raiseToFloors (ts.actions.afterReset .actions kind).active }
  system := ts.system.afterReset .system kind

/-- The session log after a reset (09 R167). -/
def Log.afterReset (l : Log) (kind : ResetKind) : Log :=
  if kind = .powerOn then Log.reset
  else
    { Log.reset with
      ring := l.ring, nextSeq := l.nextSeq, drops := l.drops,
      retained := l.retained || (match l.session with | some a => decide (a.kind = .charge) | none => false) }

/-- Power control after a reset (11 R189); the reset line and contact pins keep their levels, and a chord or soft reset
leaves a low of the reset line under way in the filter (log 14). -/
def Power.afterReset (p : Power) (kind : ResetKind) : Power :=
  let line := decide (kind = .chord ∨ kind = .soft)
  { Power.reset with
    chordBlock := kind = .chord, lineHigh := p.lineHigh, contactMv := p.contactMv,
    lineLow := if line then p.lineLow else none, lineBack := if line then p.lineBack else 0 }

/-- A reset is taken: every block in the state its chapter gives for the kind (11 R189). -/
def State.resetBlocks (s : State) (kind : ResetKind) : State where
  acq := Acq.reset
  drive := Drive.reset
  plan := s.plan.afterReset kind
  dirt :=
    { Dirt.reset with
      armA := fieldNat (s.tables.afterReset kind).band.active 0 1,
      relL := fieldNat (s.tables.afterReset kind).band.active 0 2 }
  pack := s.pack.afterReset kind
  charge := Charge.reset
  modem := Modem.reset
  frame := Frame.reset
  tables := s.tables.afterReset kind
  cause := Causes.reset
  log := s.log.afterReset kind
  power := s.power.afterReset kind
  pending := s.pending
  idleSpan := s.idleSpan
  freeCtr := s.freeCtr

/-- The record of a CHARGE session that a reset cut (09 R167). -/
def resetLostRecord : LogRecord where
  seq := 0
  kind := .charge
  reason := .resetLost
  common := none
  clean := none
  charge := none
  learned := none

/-- The part becomes AWAKE at the end of a reset: telemetry starts (10 R181) and a retained CHARGE session leaves its
RESET_LOST record (09 R167). -/
def State.resetEnds (s : State) : State :=
  let s1 := s.startTelemetry
  if s1.log.retained then
    ({ s1 with log := { s1.log with retained := false } }).writeRecord resetLostRecord
  else s1

/-- A power-on, chord or soft reset ends in the event that takes it (11 R188). -/
def State.takeReset (s : State) (kind : ResetKind) : State := (s.resetBlocks kind).resetEnds

/-- A pin reset is taken; the part stays in reset while the line stays low (11 R188). -/
def State.takePinReset (s : State) : State :=
  let s1 := s.resetBlocks .pin
  { s1 with power := { s1.power with held := true }, acq := { s1.acq with scanning := false } }

/-- A pin reset ends when the reset line returns high (11 R188, R189): the part is AWAKE and the first scan starts. -/
def State.endPinReset (s : State) : State :=
  let s1 : State := { s with power := { s.power with held := false }, acq := { s.acq with scanning := true } }
  s1.resetEnds

/-! ### Wake (11 R185) -/

/-- The pace of scans at a wake: a scan in flight completes, otherwise one starts (01 R3). A scan in flight did not
begin after the wake (11 R187). -/
def State.wakeScan (s : State) : State :=
  if s.acq.scanning then { s with acq := { s.acq with scanFresh := false } } else s.startScan

/-- SLEEP is left (11 R185). Keep-alive, idle timer and path follow in `settled`. -/
def State.wake (s : State) : State :=
  if s.power.state = .sleep then
    let s1 : State := { s with
      power := { s.power with state := .awake, settle := some 0, settleScan := false },
      dirt := s.dirt.freshWindow,
      modem := { s.modem with rx := .idle, toneRun := 0 },
      pack := { s.pack with shipCount := 0 },
      charge := { s.charge with
        helloWait := if s.charge.presence = .present then some (ticksOfMs 2000) else s.charge.helloWait } }
    s1.startTelemetry.wakeScan
  else s

/-- A wake by a press sets the sleep chord mark, which the release of that control clears (11 R185). Where the other
control wakes the part again while the first is still held, the mark is that of the latest (log 43). -/
def State.wakeBy (s : State) (c : Control) : State :=
  if s.power.state = .sleep then
    let s1 := s.wake
    { s1 with power := { s1.power with sleepChord := some c } }
  else s

/-! ### SLEEP (11 R183) -/

/-- A RESET answer to the dock that SLEEP entry empties or stops counts as discarded, so its soft reset is taken (11
R188; log 20). -/
def State.dockResetCut (s : State) : Bool :=
  s.power.resetPending &&
  ((match s.modem.buf with | some a => decide (a.tag = .resetOk) | none => false) ||
   (match s.modem.tx with | some x => decide (x.answer.tag = .resetOk) | none => false))

/-- SLEEP entry (11 R183): scans once a second, the path OPEN, the CLEAN session closed, dirt unit, modem and telemetry
stopped. Run request, keep-alive and idle timer follow in `settled`. An answer that waits for the chassis transmit buffer
is kept and sent in SLEEP: log 53, the model's choice. -/
def State.enterSleep (s : State) : State :=
  if s.dockResetCut then s.takeReset .soft
  else
    let s1 : State := { s with
      power := { s.power with state := .sleep, idleTimer := none },
      acq := { s.acq with sleepTimer := 0 },
      dirt := { s.dirt.freshWindow with bandBlank := none },
      modem := s.modem.stopped,
      pack := { s.pack with shipCount := 0 },
      frame := { s.frame with coPar := Parser.hunting, telTimer := none, telem := [] } }
    (s1.openFromDischarge).closeClean .sleep

/-! ### SHIP (11 R186) -/

/-- Every block stops at SHIP entry: the scan in flight is abandoned, the path opens, the CLEAN session closes SHIP, the
modem and the transmitter stop. -/
def State.stopForShip (s : State) : State :=
  let s1 : State := { s with
    power := { s.power with state := .ship, shipPending := false, idleTimer := none, chord := none },
    acq := { s.acq with scanning := false, accSum := 0, accCount := 0 },
    dirt := { s.dirt.freshWindow with bandBlank := none },
    modem := s.modem.stopped,
    pack := { s.pack with shipCount := 0 },
    frame := { s.frame with
      chPar := Parser.hunting, coPar := Parser.hunting, telTimer := none, telem := [], sending := none,
      txBuf := none, waiting := none } }
  ((s1.openFromDischarge).closeClean .ship).settled

/-- SHIP is left through a power-on reset while the contact voltage is above 20,000 mV (11 R186). -/
def State.leaveShipIfDocked (s : State) : State :=
  if s.power.state = .ship ∧ 20000 < s.power.contactMv then s.takeReset .powerOn else s

/-- SHIP entry; contact voltage at the instant of entry leaves SHIP again at once. -/
def State.enterShip (s : State) : State := s.stopForShip.leaveShipIfDocked

end Sys2Proof.Machine
end

