-- ==== Sys2Proof/Machine/Time.lean ====
section
/-! DEFINITION. The passing of time (00 section 4.3, log 1): every timer of the part moves on by a number of ticks. No
timer acts by itself; the step that reports its expiry does (log 2). -/

namespace Sys2Proof.Machine

/-- A running timer that counts up. -/
def countUp (dt : Nat) (t : Option Nat) : Option Nat := t.map (· + dt)

/-- A running timer that counts down to 0. -/
def countDown (dt : Nat) (t : Option Nat) : Option Nat := t.map (· - dt)

/-- The time since reset saturates at 4,294,967,295 ms (11). -/
def clockTop : Nat := 4294967295 * 12000 + 11999

/-- Drive timers (02): in AWAKE all of them, in SLEEP the time since a crossing of STOPPED, so that one from before SLEEP
is not taken for a late one (02 R25). -/
def Drive.advance (d : Drive) (dt : Nat) (awake : Bool) : Drive :=
  if awake then
    { d with
      retry := countDown dt d.retry,
      stateTime := d.stateTime + dt,
      stepTime := d.stepTime + dt,
      crossTime := d.crossTime + dt,
      revTime := d.revTime + dt,
      quiet := d.quiet + dt,
      nextComm := countDown dt d.nextComm,
      stopCross := countUp dt d.stopCross,
      rampTime := d.rampTime + dt }
  else { d with stopCross := countUp dt d.stopCross }

/-- The debouncers and the press timer, in AWAKE and SLEEP (04 R67, R68). -/
def Plan.advance (p : Plan) (dt : Nat) : Plan :=
  { p with
    trigTime := p.trigTime + dt,
    btnTime := p.btnTime + dt,
    pressTimer := countUp dt p.pressTimer }

/-- The mismatch run (06 R126). -/
def MismatchRun.advance (m : MismatchRun) (dt : Nat) : MismatchRun :=
  match m with
  | .none => .none
  | .over t => .over (t + dt)
  | .within t => .within (t + dt)

/-- The phase time runs while the stage is RUNNING and the cap above 0 (06 R122). -/
def Charge.phaseRuns (c : Charge) : Bool :=
  match c.session with
  | some x => !x.faulted && decide (0 < c.cap)
  | none => false

/-- Charge timers: the OPEN dwell and the mismatch run in AWAKE and SLEEP, the others in AWAKE (06 R109, R116, R122). -/
def Charge.advance (c : Charge) (dt : Nat) (awake : Bool) : Charge :=
  { c with
    dwell := countDown dt c.dwell,
    mismatch := c.mismatch.advance dt,
    helloWait := if awake then countDown dt c.helloWait else c.helloWait,
    silence := if awake then countUp dt c.silence else c.silence,
    phaseTime := if awake && c.phaseRuns then c.phaseTime + dt else c.phaseTime,
    bleedTime := if isHeld c.session && anyMark c.bleed then c.bleedTime + dt else c.bleedTime }

/-- The modem's window and transmitter (07 R135, R137). -/
def Modem.advance (m : Modem) (dt : Nat) : Modem :=
  { m with
    window := m.window.map fun w => (w.1, w.2 - dt),
    tx := m.tx.map fun x => { x with time := x.time + dt } }

/-- The keep-alive window counts while RUNNING (08 R156). -/
def KeepWindow.advance (k : KeepWindow) (dt : Nat) : KeepWindow :=
  match k with
  | .running first e => .running first (e + dt)
  | .idle => .idle
  | .expired => .expired

/-- Frame unit timers; the telemetry timer runs in AWAKE (10). -/
def Frame.advance (f : Frame) (dt : Nat) (awake : Bool) : Frame :=
  { f with
    startup := countDown dt f.startup,
    sending := f.sending.map fun x => (x.1, x.2 + dt),
    gapTime := f.gapTime + dt,
    telTimer := if awake then countDown dt f.telTimer else f.telTimer,
    keep := f.keep.advance dt }

/-- A CLEAN session's times: run time in RUN, the mode time of the mode in force in AWAKE (09 R160). -/
def Session.advance (a : Session) (dt : Nat) (running : Bool) (mode : Mode) : Session :=
  if a.kind = .clean then
    { a with
      runTime := if running then a.runTime + dt else a.runTime,
      ecoTime := if mode = .eco then a.ecoTime + dt else a.ecoTime,
      autoTime := if mode = .auto then a.autoTime + dt else a.autoTime,
      boostTime := if mode = .boost then a.boostTime + dt else a.boostTime }
  else a

/-- A CLEAN session is open. -/
def Log.cleanOpen (l : Log) : Bool :=
  match l.session with
  | some a => decide (a.kind = .clean)
  | none => false

/-- The session log's times, in AWAKE: the idle time with the motor STOPPED in an open CLEAN session (09 R161). -/
def Log.advance (l : Log) (dt : Nat) (motor : MotorState) (mode : Mode) : Log :=
  { l with
    session := l.session.map fun a => a.advance dt (decide (motor = .run)) mode,
    idleTime := if l.cleanOpen && decide (motor = .stopped) then l.idleTime + dt else l.idleTime }

/-- Power control's timers; the idle timer runs in AWAKE (11). -/
def Power.advance (p : Power) (dt : Nat) : Power :=
  { p with
    settle := countUp dt p.settle,
    idleTimer := if p.state = .awake then countUp dt p.idleTimer else p.idleTimer,
    chord := p.chord.map fun c => (c.1 + dt, c.2),
    lineLow := countUp dt p.lineLow,
    lineBack := p.lineBack + dt,
    clock := min clockTop (p.clock + dt) }

/-- Ticks pass. In SHIP every block is stopped, and in a pin reset while the line stays low no timer runs (11 R186,
R188). -/
def State.advance (s : State) (dt : Nat) : State :=
  if s.live then
    { s with
      acq := { s.acq with
        scanTime := s.acq.scanTime + dt,
        sleepTimer := if s.awake then s.acq.sleepTimer else s.acq.sleepTimer + dt },
      drive := s.drive.advance dt s.awake,
      plan := s.plan.advance dt,
      dirt := if s.awake then { s.dirt with bandBlank := countDown dt s.dirt.bandBlank } else s.dirt,
      pack := { s.pack with probeTime := s.pack.probeTime + dt },
      charge := s.charge.advance dt s.awake,
      modem := s.modem.advance dt,
      frame := s.frame.advance dt s.awake,
      log := if s.awake then s.log.advance dt s.drive.motor s.plan.mode else s.log,
      power := s.power.advance dt }
  else s

end Sys2Proof.Machine
end

