-- ==== Sys2Proof/Machine/Pack.lean ====
section
/-! DEFINITION. The pack monitor's work at a scan completion, in the order of R88, and the resistance probe's intervals
(05). -/

namespace Sys2Proof.Machine

/-! ### Figures of a scan (05 R88) -/

/-- The scan period t_scan in us: the scan's duration, or 1,000,000 for a scan started in SLEEP (05 R88). -/
def ScanSet.periodUs (x : ScanSet) : Nat := if x.asleep then 1000000 else x.durationUs

/-- Some cell carries a saturation mark. -/
def ScanSet.marked (x : ScanSet) : Bool := anyMark x.cellSat

/-- T, the larger of TP1 and TP2 (05 R88). -/
def ScanSet.temp (x : ScanSet) : Int := max x.tp1 x.tp2

/-- The cell voltages V_i, clamped to 0..5000 (05 R88). -/
def ScanSet.volts (x : ScanSet) : List Nat := x.cells.map fun v => (clampInt 0 5000 v).toNat

/-- The point that the pack monitor keeps of a scan. -/
def ScanSet.point (x : ScanSet) : ScanPoint where
  i := x.iScan
  v := x.volts
  sat := x.cellSat

/-! ### Step 1: PACK image (05 R87, R108) -/

/-- The state brought within the image in use; where that moves Q_full, SoC and reserve state are formed again (05 R87,
R98). -/
def State.fitPack (s : State) : State := if s.clampPack.pack.qFull = s.pack.qFull then s.clampPack else s.clampPack.formSoc

/-- A pending PACK image is taken up; the state is brought within the image there and at the first completion after a
pin or chord reset. -/
def State.packTable (s : State) : State :=
  if s.isPending .pack then (s.takeUp .pack).fitPack
  else if s.pack.clampDue then s.fitPack
  else s

/-- Step 2: cell values. -/
def State.packVolts (s : State) (x : ScanSet) : State := { s with pack := { s.pack with v := x.volts } }

/-! ### Step 3: resistance (05 R89) -/

/-- R_meas of a load step. -/
def measured (before after : Nat) (dI : Int) : Int := roundDiv (((before : Int) - after) * 10000) dI

/-- A resistance moved one eighth of the way to an accepted figure. -/
def movedTo (r m : Int) : Int := r + roundDiv (m - r) 8

/-- A figure lies within R_lo..R_hi. -/
def State.figureFits (s : State) (m : Int) : Bool := decide (s.packField 4 ≤ m) && decide (m ≤ s.packField 5)

/-- The cells left out of an estimate: those with a mark in this scan or in the previous one. -/
def leftOut (p : ScanPoint) (x : ScanSet) (i : Nat) : Bool := p.sat.getD i false || x.cellSat.getD i false

/-- Cell i's R_meas between two scans. -/
def cellFigure (p : ScanPoint) (x : ScanSet) (i : Nat) : Int :=
  measured (p.v.getD i 0) (x.volts.getD i 0) (x.iScan - p.i)

/-- The estimate is made at this completion, from the previous scan: no probe is under way, and none has ended since the
completion before this one began. -/
def State.estimateFrom (s : State) (x : ScanSet) : Option ScanPoint :=
  match s.pack.prev with
  | some p =>
    if s.pack.probe = .idle ∧ s.pack.skipEst = false ∧ s.pack.skipNow = false ∧ 2000 ≤ (x.iScan - p.i).natAbs then some p
    else none
  | none => none

/-- Each cell takes its figure, keeps its R_i with a discard, or is left out. -/
def State.packResistance (s : State) (x : ScanSet) : State :=
  match s.estimateFrom x with
  | none => s
  | some p =>
    { s with pack := { s.pack with
        r := s.pack.r.zipIdx.map fun c =>
          if leftOut p x c.2 then c.1
          else if s.figureFits (cellFigure p x c.2) then movedTo c.1 (cellFigure p x c.2)
          else c.1,
        discards := satCount (s.pack.discards +
          (List.range 7).countP fun i => !leftOut p x i && !s.figureFits (cellFigure p x i)) } }

/-! ### Steps 4 to 6: charge, rest estimate, SoC (05 R94, R95, R97, R98) -/

/-- The scan's charge in mA ms (05 R94). -/
def ScanSet.charge (x : ScanSet) : Int := roundDiv (x.iScan * x.periodUs) 1000

/-- The scan's charge moves Q, the session charge and the open session's charge sum; a discharge scan clears the empty
mark. -/
def State.packCharge (s : State) (x : ScanSet) : State :=
  { s with
    pack := { s.pack with
      q := s.pack.q.map fun q => clampInt 0 s.pack.qFull (q - x.charge),
      sessCharge := if isHeld s.charge.session then s.pack.sessCharge - x.charge else s.pack.sessCharge,
      emptyMark := s.pack.emptyMark && !decide (200 < x.iScan) },
    log := { s.log with
      session := s.log.session.map fun a => { a with chargeSum := a.chargeSum + x.charge } } }

/-- Voltage and SoC of OCV point j (05 R85). -/
def State.ocvVolt (s : State) (j : Nat) : Int := s.packField (24 + 2 * j)
def State.ocvSoc (s : State) (j : Nat) : Int := s.packField (25 + 2 * j)

/-- SoC on the span from point j to point j + 1 (05 R95). -/
def State.ocvSpan (s : State) (j : Nat) (v : Int) : Int :=
  s.ocvSoc j + floorDiv ((v - s.ocvVolt j) * (s.ocvSoc (j + 1) - s.ocvSoc j)) (s.ocvVolt (j + 1) - s.ocvVolt j)

/-- SoC of a rest voltage through the OCV points (05 R95). -/
def State.ocvPct (s : State) (v : Int) : Int :=
  if v < s.ocvVolt 0 then 0
  else if s.ocvVolt 5 < v then 100
  else if v ≤ s.ocvVolt 1 then s.ocvSpan 0 v
  else if v ≤ s.ocvVolt 2 then s.ocvSpan 1 v
  else if v ≤ s.ocvVolt 3 then s.ocvSpan 2 v
  else if v ≤ s.ocvVolt 4 then s.ocvSpan 3 v
  else s.ocvSpan 4 v

/-- The rest estimate is due: Q unknown, the pack at rest, no mark (05 R95). -/
def State.restDue (s : State) (x : ScanSet) : Bool :=
  decide (s.pack.q = none) && decide (x.iScan.natAbs ≤ 200) && !x.marked

/-- The rest estimate (05 R95). -/
def State.packRest (s : State) (x : ScanSet) : State :=
  if s.restDue x then
    { s with pack := { s.pack with q := some (floorDiv (s.pack.qFull * s.ocvPct (minNat x.volts)) 100) } }
  else s

/-! ### Step 7: budget (05 R90 to R93) -/

/-- Rest estimate E_i (05 R90). -/
def restEstimate (v : Nat) (i r : Int) : Int := (v : Int) + roundDiv (i * r) 10000

/-- Cell limit L_i (05 R90). -/
def cellLimit (e floor r : Int) : Nat := if e - floor ≤ 0 then 0 else (floorDiv ((e - floor) * 10000) r).toNat

/-- E_i of every cell. -/
def State.restEstimates (s : State) (x : ScanSet) : List Int :=
  x.volts.zipWith (fun v r => restEstimate v x.iScan r) s.pack.r

/-- L_cell (05 R90). -/
def State.cellLimits (s : State) (x : ScanSet) : Nat :=
  minNat ((s.restEstimates x).zipWith (fun e r => cellLimit e (s.packField 0) r) s.pack.r)

/-- Row of the temperature limit: the last of the rows in use at or below T, else row 0 (05 R91). -/
def State.tempRow (s : State) (t : Int) : Nat :=
  (List.range (s.packField 11).toNat).foldl (fun row j => if s.packField (12 + 2 * j) ≤ t then j else row) 0

/-- L_temp (05 R91). -/
def State.tempLimit (s : State) (t : Int) : Nat := (s.packField (13 + 2 * s.tempRow t)).toNat

/-- The derate currents of the present conditions whose action is DERATE (05 R92). -/
def State.derates (s : State) : List Nat :=
  (conditionKinds.filter fun k => s.cond k && s.actionOf k == 1).map s.derateOf

/-- I_abs_max (05 R85). -/
def State.iAbsMax (s : State) : Nat := (s.packField 6).toNat

/-- B_raw: the smallest of L_cell, L_temp, L_fault where it sets a limit, and I_abs_max (05 R92, R93). -/
def State.rawBudget (s : State) (x : ScanSet) : Nat :=
  s.derates.foldl min (min (s.cellLimits x) (min (s.tempLimit x.temp) s.iAbsMax))

/-- B, which rises by at most rise_step (05 R93). -/
def State.budgetOf (s : State) (x : ScanSet) : Nat :=
  min (s.rawBudget x) (s.pack.budget + (s.packField 8).toNat)

/-- The budget computed. -/
def State.packBudget (s : State) (x : ScanSet) : State :=
  { s with pack := { s.pack with
      e := s.restEstimates x, lCell := s.cellLimits x, lTemp := s.tempLimit x.temp, budget := s.budgetOf x } }

/-! ### Step 8: limits (05 R99 to R101) -/

/-- Count of scans below V_cut. -/
def State.withEmptyCount (s : State) (n : Nat) : State := { s with pack := { s.pack with emptyCount := n } }

/-- The empty test (05 R99). -/
def State.packEmptyTest (s : State) (x : ScanSet) : State :=
  if s.charge.presence = .present || x.marked then s
  else
    let low : Int := minNat x.volts
    if s.cond .packEmpty then
      if s.packField 1 + 200 ≤ low then (s.endCond .packEmpty).withEmptyCount 0 else s
    else if low < s.packField 1 then
      let n := min 3 (s.pack.emptyCount + 1)
      let s1 := s.withEmptyCount n
      if 3 ≤ n then (s1.raise .packEmpty 0).emptyAnchor else s1
    else s.withEmptyCount 0

/-- Count of RUN scans with B below I_run_min. -/
def State.withExhCount (s : State) (n : Nat) : State := { s with pack := { s.pack with exhCount := n } }

/-- The exhaustion test; its onset sets the planner's exhausted latch (05 R100, 04 R73). The motor state is the one that
the empty test of the same completion has left: out of RUN where the onset of PACK_EMPTY tripped, still in RUN where it
only brings HOLD into force (log 35). -/
def State.packExhaustTest (s : State) : State :=
  let b : Int := s.pack.budget
  if s.cond .budgetExhausted then
    if s.packField 7 + 1000 ≤ b then s.endCond .budgetExhausted else s
  else if s.drive.motor = .run ∧ b < s.packField 7 then
    let n := s.pack.exhCount + 1
    if 10 ≤ n then
      let s1 := (s.withExhCount 0).raise .budgetExhausted 0
      { s1 with plan := { s1.plan with exhausted := true } }
    else s.withExhCount n
  else s.withExhCount 0

/-- The deep-discharge test of SLEEP (05 R101). -/
def State.packShipTest (s : State) (x : ScanSet) : State :=
  if s.power.state = .sleep ∧ x.marked = false then
    let n := if ((minNat x.volts : Nat) : Int) < s.packField 2 then s.pack.shipCount + 1 else 0
    let s1 : State := { s with pack := { s.pack with shipCount := n } }
    if 3 ≤ n then s1.enterShip else s1
  else s

/-! ### Step 9 and the probe's record of the scan (05 R88, R103) -/

/-- Previous values, and the probe's record: a rest's scan is the next pulse's "before", a pulse's scan that started in
the pulse is its "inside". -/
def State.packKeep (s : State) (x : ScanSet) : State :=
  { s with pack := { s.pack with
      prev := some x.point,
      before := match s.pack.probe with | .rest _ => some x.point | .pulse _ => s.pack.before | .idle => s.pack.before,
      inside :=
        match s.pack.probe with
        | .pulse _ => if s.acq.scanInPulse then some x.point else s.pack.inside
        | .rest _ => s.pack.inside
        | .idle => s.pack.inside } }

/-- The pack monitor's work at a scan completion (05 R88). The test of R101 comes last: it may end in SHIP. -/
def State.packScan (s : State) (x : ScanSet) : State :=
  let s1 := s.packTable.packVolts x
  let s2 := (s1.packResistance x).packCharge x
  let s3 := (s2.packRest x).formSoc
  let s4 := (s3.packBudget x).packEmptyTest x
  ((s4.packExhaustTest).packKeep x).packShipTest x

/-! ### The probe's intervals (05 R103 to R105) -/

/-- A pulse begins: duty 0, and only scans started from here on are recorded "inside" (05 R103). -/
def State.beginPulse (s : State) (k : Nat) : State :=
  { s with
    drive := { s.drive with duty := 0 },
    pack := { s.pack with probe := .pulse k, probeTime := 0, inside := none },
    acq := { s.acq with
      scanInPulse := decide (s.acq.scanTime = 0 ∧ s.acq.slotIndex = 0 ∧ s.acq.slotFrames = 0) } }

/-- The figures of a pulse from its "before" and "inside" scans (05 R104). -/
def pulseFigures (before inside : Option ScanPoint) : List (Option Int) :=
  match before, inside with
  | some a, some b =>
    if b.i - a.i < 2000 then List.replicate 7 none
    else
      (List.range 7).map fun i =>
        if a.sat.getD i false || b.sat.getD i false then none
        else some (measured (a.v.getD i 0) (b.v.getD i 0) (b.i - a.i))
  | _, _ => List.replicate 7 none

/-- A pulse ends (05 R103, R104). -/
def State.endPulse (s : State) (k : Nat) : State :=
  { s with
    drive := { s.drive with duty := 0 },
    pack := { s.pack with
      probe := .rest k, probeTime := 0,
      figures := s.pack.figures ++ [pulseFigures s.pack.before s.pack.inside],
      before := none, inside := none } }

/-- Mean of a cell's three figures, none with fewer (05 R105). -/
def cellMean (figures : List (List (Option Int))) (i : Nat) : Option Int :=
  match figures.map fun f => f.getD i none with
  | [some a, some b, some c] => some (roundDiv (a + b + c) 3)
  | _ => none

/-- Whether a cell's mean is accepted (05 R105). -/
def State.meanFits (s : State) (i : Nat) : Bool :=
  match cellMean s.pack.figures i with
  | some m => s.figureFits m
  | none => false

/-- The probe completes at the end of REST 3 (05 R105). -/
def State.completeProbe (s : State) : State :=
  let s1 : State := { s with pack := { s.pack with
    r := s.pack.r.zipIdx.map fun c =>
      if s.meanFits c.2 then (cellMean s.pack.figures c.2).getD c.1 else c.1 } }
  s1.endProbe .done ((List.range 7).map fun i => !s.meanFits i)

/-- The end of a probe interval: 100 ms of a pulse, 200 ms of a rest (05 R103). -/
def State.probeInterval (s : State) : State :=
  match s.pack.probe with
  | .idle => s
  | .pulse k => if ticksOfMs 100 ≤ s.pack.probeTime then s.endPulse k else s
  | .rest k =>
    if ticksOfMs 200 ≤ s.pack.probeTime then
      (if 3 ≤ k then s.completeProbe.settled else s.beginPulse (k + 1))
    else s

/-- PROBE_INTERVAL_END (05 R103). -/
def execProbeIntervalEnd (s : State) : Host.Outcome State Fault Refusal := .next s.probeInterval

end Sys2Proof.Machine
end

