-- ==== Sys2Proof/Machine/Charge.lean ====
section
/-! DEFINITION. The charge unit's own events (06): dock presence, dock record and silence, exit tests and time limits,
balancing, demand and mismatch. The pack path and sessions are in Cascade.lean. -/

namespace Sys2Proof.Machine

/-! ### A close in the event of an occurrence (09 R161) -/

/-- An info kind raised in the event that closes the open session: whether it still joins the record's causes seen is
left open by the spec for DOCKED and is free (09 R161; log 21). -/
def State.raiseAtClose (s : State) (k : CauseKind) : State :=
  if isHeld s.log.session then
    let s1 := (s.noteOccurrence k 0 0).freeUsed
    { s1 with log := { s1.log with
        session := s1.log.session.map fun a =>
          { a with causes := if s.freeFirst then joinCause a.causes k else a.causes } } }
  else s.noteOccurrence k 0 0

/-! ### Dock presence (06 R113, R114) -/

/-- High and low time after a scan (06 R113). -/
def State.highTimeAfter (s : State) (x : ScanSet) : Nat :=
  if s.charge.presence ≠ .present ∧ 20000 ≤ x.vdock then s.charge.highTime + x.periodUs else 0

def State.lowTimeAfter (s : State) (x : ScanSet) : Nat :=
  if s.charge.presence ≠ .absent ∧ x.vdock < 15000 then s.charge.lowTime + x.periodUs else 0

/-- Both times replaced. -/
def State.withTimes (s : State) (high low : Nat) : State :=
  { s with charge := { s.charge with highTime := high, lowTime := low } }

/-- An answer frame that no longer brings about SHIP entry. -/
def TxFrame.withoutShip (f : TxFrame) : TxFrame := if f.tag = .shipOk then { f with tag := .plain } else f

/-- SHIP entry is cancelled: the OK frame under way no longer leads to it (11 R186). -/
def State.cancelShip (s : State) : State :=
  if s.power.shipPending then
    { s with
      power := { s.power with shipPending := false },
      frame := { s.frame with
        waiting := s.frame.waiting.map TxFrame.withoutShip,
        txBuf := s.frame.txBuf.map TxFrame.withoutShip,
        sending := s.frame.sending.map fun x => (x.1.withoutShip, x.2) } }
  else s

/-- The pack monitor at the onset of presence: PACK_EMPTY ends, its count is 0, a probe ends ABORTED_DOCK (05 R99,
R106). -/
def State.packAtDock (s : State) : State :=
  ((s.endCond .packEmpty).withEmptyCount 0).abortProbe .abortedDock

/-- The change to PRESENT (06 R114). The run request falls in `settled`. The CLEAN session closes before LOCKOUT and a
probe end, so PROBE_DONE and a TABLE_ACTIVATED of this event do not join its causes (log 36). -/
def State.becomePresent (s : State) : State :=
  let s1 : State := { s with charge := { s.charge with
    presence := .present, highTime := 0, lowTime := 0, helloWait := some (ticksOfMs 2000), mismatch := .none } }
  let s2 := ((s1.raiseAtClose .docked).closeClean .docked).cancelShip
  let s3 := s2.endLockout.packAtDock.wake
  if s3.drive.motor = .stopped then s3.openFromDischarge else s3

/-- The dock record cleared, with the dock's last report (06 R114, R116, 07 R139). -/
def State.forgetDock (s : State) : State :=
  { s with charge := { s.charge with dock := none, silence := none, report := none } }

/-- The change from PRESENT to ABSENT (06 R114). UNDOCKED comes before the CLEAN session that a motor start of this event
opens (06 R112, 09 R159): log 52, the model's choice. -/
def State.becomeAbsent (s : State) : State :=
  let s1 : State := { s with charge := { s.charge with
    presence := .absent, highTime := 0, lowTime := 0, helloWait := none, mismatch := .none } }
  let s2 := s1.forgetDock.raiseAtClose .undocked
  let s3 := ((s2.endCond .dockSilent).endCond .chargeTimeout).endCond .chargeMismatch
  s3.restoreDockStaging.openFromCharge .undocked

/-- The change from UNDECIDED to ABSENT raises nothing (06 R114). -/
def State.decideAbsent (s : State) : State :=
  { s with charge := { s.charge with presence := .absent, highTime := 0, lowTime := 0 } }

/-- Dock presence at a scan completion (06 R113). -/
def State.presenceScan (s : State) (x : ScanSet) : State :=
  let high := s.highTimeAfter x
  let low := s.lowTimeAfter x
  if 100000 ≤ high then s.becomePresent
  else if 20000 ≤ low then (if s.charge.presence = .present then s.becomeAbsent else s.decideAbsent)
  else s.withTimes high low

/-! ### Exit tests (06 R121) -/

/-- The below count after a scan (06 R121). -/
def State.belowAfter (s : State) (x : ScanSet) (p : Nat) : Nat :=
  if s.phaseField p 3 = 4 ∧ x.iScan.natAbs < s.phaseField p 4 then min 10 (s.charge.below + 1) else 0

/-- The exit test of phase p at a scan (06 R121); codes as in 12 section 12.2. -/
def State.exitMet (s : State) (x : ScanSet) (p : Nat) : Bool :=
  let value := s.phaseField p 4
  match s.phaseField p 3 with
  | 1 => !x.marked && decide (value < minNat x.volts)
  | 2 => !x.marked && decide (value < maxNat x.volts)
  | 3 => !x.marked && decide (minNat x.volts < value)
  | 4 => decide (10 ≤ s.belowAfter x p)
  | 5 => decide (ticksOfS value ≤ s.charge.phaseTime)
  | _ => false

/-- The phase whose exit test is made, that of a RUNNING session (06 R121). -/
def State.runningPhase (s : State) : Option Nat :=
  match s.charge.session with
  | some x => if x.faulted then none else some x.phase
  | none => none

/-- One exit test and at most one phase entry (06 R121). It tests the phase it finds, which may be one that a time limit
has entered at the same instant (06 R122; log 38). -/
def State.exitScan (s : State) (x : ScanSet) : State :=
  match s.runningPhase with
  | none => s
  | some p =>
    if s.exitMet x p then s.enterPhase (s.phaseField p 6)
    else { s with charge := { s.charge with below := s.belowAfter x p } }

/-! ### Balancing (06 R127) -/

/-- Spread of a cell above the lowest. -/
def spread (volts : List Nat) (i : Nat) : Nat := volts.getD i 0 - minNat volts

/-- The highest of some cells, the lower number between equals. -/
def highestOf (volts : List Nat) (cells : List Nat) : Option Nat :=
  cells.foldl
    (fun best i =>
      match best with
      | none => some i
      | some b => if volts.getD b 0 < volts.getD i 0 then some i else some b)
    none

/-- Cells without a slot whose spread calls for bleeding. -/
def candidates (volts : List Nat) (delta : Nat) (held : List Bool) : List Nat :=
  (List.range 7).filter fun i => !held.getD i false && decide (delta ≤ spread volts i)

/-- `n` free slots filled from the highest candidates. -/
def fillSlots (volts : List Nat) (delta : Nat) : Nat → List Bool → List Bool
  | 0, held => held
  | n + 1, held =>
    match highestOf volts (candidates volts delta held) with
    | none => held
    | some i => fillSlots volts delta n (held.set i true)

/-- The holders that keep their slots. -/
def keptSlots (volts : List Nat) (delta : Nat) (held : List Bool) : List Bool :=
  held.zipIdx.map fun c => c.1 && decide (delta / 2 ≤ spread volts c.2)

/-- The assignment of the three slots (06 R127). -/
def assignSlots (volts : List Nat) (delta : Nat) (held : List Bool) : List Bool :=
  let kept := keptSlots volts delta held
  fillSlots volts delta (3 - kept.countP id) kept

/-- Balancing is on at a scan (06 R127). -/
def State.balancing (s : State) (x : ScanSet) : Bool :=
  decide (s.charge.path = .charge) && decide (max x.tp1 x.tp2 < s.chargeSetting 3) &&
  match s.runningPhase with
  | some p => s.phaseBalances p
  | none => false

/-- Bleed slots at a scan completion (06 R127). -/
def State.bleedScan (s : State) (x : ScanSet) : State :=
  { s with charge := { s.charge with
      bleed :=
        if s.balancing x then assignSlots x.volts (s.chargeSetting 4).toNat s.charge.bleed
        else List.replicate 7 false } }

/-- Exit test and balancing. Where a phase is entered, whether the slots are assigned before or after is free (log 4). -/
def State.sessionScan (s : State) (x : ScanSet) : State :=
  match s.runningPhase with
  | some p =>
    if s.exitMet x p ∧ s.freeFirst then (s.freeUsed.bleedScan x).exitScan x
    else (s.exitScan x).bleedScan x
  | none => s.bleedScan x

/-- The charge unit's work at a scan completion (06 R113, R121, R127): presence first, then the exit test of a session
that is still open (log 37). The cap follows in `settled` (06 R124). -/
def State.chargeScan (s : State) (x : ScanSet) : State := (s.presenceScan x).sessionScan x

/-! ### Timers (06 R112, R116, R122) -/

/-- The OPEN dwell ends; the next path is chosen in `settled` (06 R112). -/
def State.endDwell (s : State) : State :=
  if s.charge.dwell = some 0 then ({ s with charge := { s.charge with dwell := none } }).settled else s

/-- The HELLO wait expires (06 R116). -/
def State.endHelloWait (s : State) : State :=
  if s.awake && decide (s.charge.helloWait = some 0) then
    (({ s with charge := { s.charge with helloWait := none } }).raise .dockSilent 0).settled
  else s

/-- The silence time has reached a number of ms. -/
def State.silentFor (s : State) (ms : Nat) : Bool :=
  match s.charge.silence with
  | some t => s.awake && decide (ticksOfMs ms ≤ t)
  | none => false

/-- The silence time reaches 1000 ms (06 R116). -/
def State.silence1000 (s : State) : State := if s.silentFor 1000 then (s.raise .dockSilent 0).settled else s

/-- The dock link is lost (06 R116, 10 R178). -/
def State.loseDock (s : State) : State :=
  if s.silentFor 5000 then
    let s1 := (s.forgetDock.restoreDockStaging).openFromCharge .linkLost
    ({ s1 with charge := { s1.charge with helloWait := some (ticksOfMs 2000) } }).settled
  else s

/-- The running phase's time limit has been reached (06 R122). -/
def State.limitReached (s : State) (p : Nat) : Bool :=
  decide (s.phaseField p 5 ≠ 0) && decide (ticksOfS (s.phaseField p 5) ≤ s.charge.phaseTime)

/-- FAULTED: no bleeding, CHARGE_TIMEOUT raised; the cap follows in `settled` (06 R122). -/
def State.faultPhase (s : State) (p : Nat) : State :=
  ({ s with charge := { s.charge with
      session := some { faulted := true, phase := p }, bleed := List.replicate 7 false } }).raise .chargeTimeout 0

/-- A phase time limit (06 R122). -/
def State.phaseLimit (s : State) : State :=
  match s.runningPhase with
  | none => s
  | some p =>
    if s.limitReached p then
      (if s.phaseField p 7 = 255 then s.faultPhase p else s.enterPhase (s.phaseField p 7)).settled
    else s

/-! ### Dock frames (06 R115, R116, R125, R126) -/

/-- A dock frame taken into the slot restarts the silence time and ends a DOCK_SILENT that came from it (06 R116). -/
def State.dockFrameTaken (s : State) : State :=
  if isHeld s.charge.dock then
    ({ s with charge := { s.charge with silence := some 0 } }).endCond .dockSilent
  else s

/-- A DOCK HELLO taken by presence (06 R115). -/
def State.takeHello (s : State) (current voltage revision : Nat) : State :=
  if s.charge.presence = .present then
    ({ s with charge := { s.charge with
        dock := some { maxCurrent := min 4000 current, maxVoltage := voltage, revision := revision },
        helloWait := none, silence := some 0 } }).endCond .dockSilent
  else s

/-- I_scan of the latest scan. -/
def State.latestScanCurrent (s : State) : Int :=
  match s.acq.lastSet with
  | some x => x.iScan
  | none => 0

/-- The mismatch run changed. -/
def State.withMismatch (s : State) (m : MismatchRun) : State := { s with charge := { s.charge with mismatch := m } }

/-- The mismatch test at a POLL with presence PRESENT (06 R126). -/
def State.mismatchTest (s : State) (output : Nat) : State :=
  if s.charge.presence = .present then
    let far := decide (300 < ((output : Int) + s.latestScanCurrent).natAbs)
    if s.cond .chargeMismatch then
      if far then s.withMismatch .none
      else
        match s.charge.mismatch with
        | .within t =>
          if ticksOfMs 2000 ≤ t then (s.withMismatch .none).endCond .chargeMismatch else s
        | .over _ => s.withMismatch (.within 0)
        | .none => s.withMismatch (.within 0)
    else if far then
      match s.charge.mismatch with
      | .over t => if ticksOfMs 2000 ≤ t then (s.withMismatch .none).raise .chargeMismatch 0 else s
      | .within _ => s.withMismatch (.over 0)
      | .none => s.withMismatch (.over 0)
    else s.withMismatch .none
  else s

/-- The effective ceiling of a phase (06 R115). -/
def State.effectiveCeiling (s : State) (p : Nat) : Nat :=
  match s.charge.dock with
  | some d => min (s.phaseField p 1) (d.maxVoltage / 7)
  | none => s.phaseField p 1

/-- The phase in force, 0 with no session open. -/
def State.phaseInForce (s : State) : Nat :=
  match s.charge.session with
  | some x => x.phase
  | none => 0

/-- D after a POLL (06 R125). -/
def State.demandAfterPoll (s : State) : Nat :=
  if s.charge.path = .charge then
    let high := maxNat s.pack.v
    let ceiling := s.effectiveCeiling s.phaseInForce
    min s.charge.cap
      (if ceiling ≤ high then s.charge.demand - 50
       else if high + 15 ≤ ceiling then s.charge.demand + 50
       else s.charge.demand)
  else 0

/-- A DOCK POLL taken: report, mismatch test, demand (07 R139). A HOLD that the test brings into force or ends reaches
the cap before D is stepped. -/
def State.takePoll (s : State) (output voltage : Nat) : State :=
  let s1 : State := { s with charge := { s.charge with report := some (output, voltage) } }
  let s2 := (s1.mismatchTest output).settled
  { s2 with charge := { s2.charge with demand := s2.demandAfterPoll } }

/-! ### Meanings -/

/-- OPEN_DWELL (06 R112). -/
def execOpenDwell (s : State) : Host.Outcome State Fault Refusal := .next s.endDwell

/-- HELLO_WAIT (06 R116). -/
def execHelloWait (s : State) : Host.Outcome State Fault Refusal := .next s.endHelloWait

/-- SILENCE_TIME (06 R116). -/
def execSilenceTime (s : State) : Host.Outcome State Fault Refusal := .next s.silence1000

/-- DOCK_LINK_LOST (06 R116). -/
def execDockLinkLost (s : State) : Host.Outcome State Fault Refusal := .next s.loseDock

/-- PHASE_TIME_LIMIT (06 R122). -/
def execPhaseTimeLimit (s : State) : Host.Outcome State Fault Refusal := .next s.phaseLimit

end Sys2Proof.Machine
end

