-- ==== Sys2Proof/Machine/Planner.lean ====
section
/-! DEFINITION. The planner's own events (04): trigger and button debouncing, the exhausted latch, the blockage monitor;
with the chord timer's starts and stops (11 R188). Run request and S_req are formed in `settled` (Cascade.lean). -/

namespace Sys2Proof.Machine

/-! ### Exhausted latch (04 R73) -/

/-- The latch clears with the trigger RELEASED and B recovered. -/
def State.latchTest (s : State) : State :=
  if s.plan.trigger = false ∧ s.packField 7 + 1000 ≤ (s.pack.budget : Int) then
    { s with plan := { s.plan with exhausted := false } }
  else s

/-! ### Blockage (04 R80 to R82) -/

/-- A scan qualifies for the blockage test (04 R80). -/
def State.qualifies (s : State) : Bool :=
  decide (s.drive.motor = .run) && !s.rampBusy && decide (s.dirt.bandBlank = none)

/-- Power of a scan in W (04 R80). -/
def ScanSet.power (x : ScanSet) : Int := floorDiv (x.vbus * x.iScan) 1000000

/-- Blockage minimum of the band in use (04 R76). -/
def State.blockMin (s : State) : Nat := s.bandField s.plan.band 3

/-- End threshold of the band in use (04 R80). -/
def State.blockEnd (s : State) : Nat := s.blockMin * 105 / 100

/-- Dwell of the band in use, in us (04 R81). -/
def State.blockDwell (s : State) : Nat := s.bandField s.plan.band 4 * 1000

/-- The power of a scan is below the minimum of the band in use; never with a minimum of 0, which turns the test off,
whatever the sign of the power (04 R76, R80; log 44). -/
def State.powerLow (s : State) (x : ScanSet) : Bool := decide (s.blockMin ≠ 0) && decide (x.power < s.blockMin)

/-- The power of a scan is at or above the end threshold of the band in use; always with a minimum of 0 (04 R76, R80;
log 44). -/
def State.powerBack (s : State) (x : ScanSet) : Bool := decide (s.blockMin = 0) || decide ((s.blockEnd : Int) ≤ x.power)

/-- Low and recovery time after a qualifying scan (04 R80). -/
def State.lowAfter (s : State) (x : ScanSet) : Nat := if s.powerLow x then s.plan.lowTime + x.durationUs else 0

def State.recAfter (s : State) (x : ScanSet) : Nat := if s.powerBack x then s.plan.recTime + x.durationUs else 0

/-- Both times replaced. -/
def State.withBlockTimes (s : State) (low rec : Nat) : State :=
  { s with plan := { s.plan with lowTime := low, recTime := rec } }

/-- A qualifying scan begins or ends BLOCKAGE. -/
def State.blockageTurns (s : State) (x : ScanSet) : Bool :=
  s.qualifies &&
  (if s.cond .blockage then s.powerBack x && decide (s.blockDwell ≤ s.recAfter x)
   else s.powerLow x && decide (s.blockDwell ≤ s.lowAfter x))

/-- The blockage test at a scan completion (04 R80 to R82). -/
def State.blockageScan (s : State) (x : ScanSet) : State :=
  if s.qualifies then
    if s.cond .blockage then
      if s.blockageTurns x then (s.withBlockTimes 0 0).endCond .blockage
      else s.withBlockTimes s.plan.lowTime (s.recAfter x)
    else if s.blockageTurns x then (s.withBlockTimes 0 0).raise .blockage 0
    else s.withBlockTimes (s.lowAfter x) s.plan.recTime
  else s

/-! ### Operator inputs (04 R67, R68) -/

/-- A change of a raw input restarts its 20 ms. -/
def State.rawChange (s : State) (c : Control) (pressed : Bool) : State :=
  match c with
  | .trigger =>
    if s.plan.trigRaw = pressed then s
    else { s with plan := { s.plan with trigRaw := pressed, trigTime := 0 } }
  | .button =>
    if s.plan.btnRaw = pressed then s
    else { s with plan := { s.plan with btnRaw := pressed, btnTime := 0 } }

/-- A debounced change to a level is due: the debouncers run in AWAKE and SLEEP. -/
def State.trigDue (s : State) (pressed : Bool) : Bool :=
  s.live && decide (s.plan.trigRaw = pressed) && decide (s.plan.trigger ≠ pressed) &&
  decide (ticksOfMs 20 ≤ s.plan.trigTime)

def State.btnDue (s : State) (pressed : Bool) : Bool :=
  s.live && decide (s.plan.btnRaw = pressed) && decide (s.plan.button ≠ pressed) &&
  decide (ticksOfMs 20 ≤ s.plan.btnTime)

/-- The idle timer restarts at 0 where it runs (11 R184). -/
def State.restartIdle (s : State) : State :=
  { s with power := { s.power with idleTimer := s.power.idleTimer.map fun _ => 0 } }

/-- The chord timer starts with both controls PRESSED and the chord block clear; its limit is in ms (11 R188). -/
def State.startChord (s : State) : State :=
  if s.plan.trigger && s.plan.button && !s.power.chordBlock then
    { s with power := { s.power with chord := some (0, if isHeld s.power.sleepChord then 1000 else 10000) } }
  else s

/-- A release of a control ends the chord, the chord block and the sleep chord mark of that control (11 R185, R188). -/
def State.endChord (s : State) (c : Control) : State :=
  { s with power := { s.power with
      chord := none, chordBlock := false,
      sleepChord := if s.power.sleepChord = some c then none else s.power.sleepChord } }

/-- DOCK_LOCK at a press with dock presence (04 R72). -/
def State.dockLock (s : State) : State :=
  if s.charge.presence = .present then s.raiseInfo .dockLock 0 0 else s

/-- A trigger press (04 R67). -/
def State.trigPress (s : State) : State :=
  if s.trigDue true then
    let s1 : State := { s with plan := { s.plan with trigger := true } }
    ((((s1.dockLock).abortProbe .abortedTrigger).wakeBy .trigger).restartIdle.startChord).settled
  else s

/-- A trigger release (04 R67). -/
def State.trigRelease (s : State) : State :=
  if s.trigDue false then
    let s1 : State := { s with plan := { s.plan with trigger := false } }
    ((s1.latchTest.endLockout).endChord .trigger).settled
  else s

/-- A button press (04 R68). -/
def State.btnPress (s : State) : State :=
  if s.btnDue true then
    let s1 : State := { s with plan := { s.plan with
      button := true, pressTimer := some 0, wakePress := decide (s.power.state = .sleep) } }
    ((s1.wakeBy .button).restartIdle.startChord).settled
  else s

/-- The cycle of modes (04 R68). -/
def nextMode : Mode → Mode
  | .eco => .auto | .auto => .boost | .boost => .eco

/-- The press was short enough to change the mode (04 R68). -/
def State.shortPress (s : State) : Bool :=
  match s.plan.pressTimer with
  | some t => decide (t ≤ ticksOfMs 1000)
  | none => false

/-- A short press that did not wake the part advances the mode (04 R68). -/
def State.advanceMode (s : State) : State :=
  if s.shortPress && !s.plan.wakePress then
    ({ s with plan := { s.plan with mode := nextMode s.plan.mode } }).raiseInfo .modeChanged 0 0
  else s

/-- A button release (04 R68). -/
def State.btnRelease (s : State) : State :=
  if s.btnDue false then
    let s1 := ({ s with plan := { s.plan with button := false } }).advanceMode
    let s2 : State := { s1 with plan := { s1.plan with pressTimer := none, wakePress := false } }
    (s2.endChord .button).settled
  else s

/-! ### Meanings -/

/-- RAW_INPUT_CHANGE (04 R67, R68). -/
def execRawInputChange (c : Control) (pressed : Bool) (s : State) : Host.Outcome State Fault Refusal :=
  .next (s.rawChange c pressed)

/-- TRIGGER_PRESS (04 R67). -/
def execTriggerPress (s : State) : Host.Outcome State Fault Refusal := .next s.trigPress

/-- TRIGGER_RELEASE (04 R67). -/
def execTriggerRelease (s : State) : Host.Outcome State Fault Refusal := .next s.trigRelease

/-- BUTTON_PRESS (04 R68). -/
def execButtonPress (s : State) : Host.Outcome State Fault Refusal := .next s.btnPress

/-- BUTTON_RELEASE (04 R68). -/
def execButtonRelease (s : State) : Host.Outcome State Fault Refusal := .next s.btnRelease

end Sys2Proof.Machine
end

