-- ==== Sys2Proof/Machine/Drive.lean ====
section
/-! DEFINITION. The drive unit's own events (02): start sequence, capture, RUN with its regulator, COAST and re-catch,
the ramp, current holding and foldback, with the planner's band choice (04 R78). Motor transitions that other blocks
bring about are in Cascade.lean. -/

namespace Sys2Proof.Machine

/-! ### Commutation (02 R24) -/

/-- The step after `n`. -/
def nextStep (n : Nat) : Nat := if n ≥ 6 then 1 else n + 1

/-- The step in which a crossing is expected (02 R24). -/
def crossingStep : Phase → Direction → Nat
  | .w, .falling => 1 | .v, .rising => 2 | .u, .falling => 3
  | .w, .rising => 4 | .v, .falling => 5 | .u, .rising => 6

/-- The drive vector of a step: the phase driven high, the one driven low, the floating one, and the direction of its
expected crossing (02 R24). -/
def driveVector (step : Nat) : Phase × Phase × Phase × Direction :=
  match step with
  | 1 => (.u, .v, .w, .falling)
  | 2 => (.u, .w, .v, .rising)
  | 3 => (.v, .w, .u, .falling)
  | 4 => (.v, .u, .w, .rising)
  | 5 => (.w, .u, .v, .falling)
  | _ => (.w, .v, .u, .rising)

/-- The driving states (02 section 2.1). -/
def driving (m : MotorState) : Bool := coasting m || decide (m = .probe)

/-- The bridge: the phases driven high and low with the duty in force, none with every switch off (02 R24). -/
def State.bridge (s : State) : Option (Phase × Phase × Nat) :=
  if driving s.drive.motor ∧ 0 < s.drive.duty then
    some ((driveVector s.drive.step).1, (driveVector s.drive.step).2.1, s.drive.duty)
  else none

/-- A time in ticks as whole us. -/
def wholeUs (ticks : Nat) : Nat := ticks / 12

/-- A speed from a time in us, `per` being 10,000,000 for one interval and 60,000,000 for a revolution; a time of 0 us
gives a free value (log 6). -/
def State.speedOf (s : State) (per us : Nat) : Nat := if us = 0 then Config.freeSpeed s.freeCtr else per / us

/-! ### Start (02 R26, R27) -/

/-- ALIGN has lasted align_time: RAMP_OPEN with k = 0 on step 2 (02 R26, R27). -/
def State.alignEnd (s : State) : State :=
  if s.drive.motor = .align ∧ ticksOfMs s.alignTimeMs ≤ s.drive.stateTime then
    { s with drive := { s.drive with motor := .rampOpen, openStep := 0, step := 2, stepTime := 0 } }
  else s

/-- Interval of open step k in us; one that is not positive ends at once (02 R27; log 10). -/
def State.openInterval (s : State) : Int := s.startInterval - s.drive.openStep * s.intervalStep

/-- CAPTURE from RAMP_OPEN: its first commutation is issued here (02 R28). -/
def State.captureFromRamp (s : State) : State :=
  { s with drive := { s.drive with
      motor := .capture, tCap := s.handoverInterval, step := nextStep s.drive.step, stepTime := 0,
      capComms := 1, capRun := 0, capSeen := false, nextComm := none, crossKnown := false } }

/-- The end of an open step (02 R27). -/
def State.openStepEnd (s : State) : State :=
  if s.drive.motor = .rampOpen ∧ ticksOfUs s.openInterval.toNat ≤ s.drive.stepTime then
    if s.openInterval ≤ s.handoverInterval then s.captureFromRamp
    else if s.maxOpenSteps ≤ s.drive.openStep + 1 then s.failAttempt.settled
    else { s with drive := { s.drive with
             openStep := s.drive.openStep + 1, step := nextStep s.drive.step, stepTime := 0 } }
  else s

/-! ### CAPTURE (02 R28) -/

/-- A capture commutation is due: the first of a re-catch at its scheduled time, the others T_cap apart. -/
def State.captureDue (s : State) : Bool :=
  decide (s.drive.motor = .capture) &&
  (if s.drive.capComms = 0 then decide (s.drive.nextComm = some 0)
   else decide (ticksOfUs s.drive.tCap ≤ s.drive.stepTime))

/-- A capture commutation; one whose predecessor showed no crossing breaks the run, and a thirteenth is a failed
attempt instead. -/
def State.captureStep (s : State) : State :=
  if s.captureDue then
    if 12 ≤ s.drive.capComms then s.failAttempt.settled
    else { s with drive := { s.drive with
             capRun := if s.drive.capSeen then s.drive.capRun else 0,
             capComms := s.drive.capComms + 1, capSeen := false, nextComm := none,
             step := nextStep s.drive.step, stepTime := 0 } }
  else s

/-- A crossing lies within the confirmation window: 3/8 to 5/8 of T_cap after the commutation, ends included. -/
def Drive.inWindow (d : Drive) : Bool :=
  decide (3 * ticksOfUs d.tCap ≤ 8 * d.stepTime) && decide (8 * d.stepTime ≤ 5 * ticksOfUs d.tCap)

/-- The interval from the previous crossing to this one, in whole us. -/
def Drive.interval (d : Drive) : Nat := wholeUs d.crossTime

/-- RUN entry at the sixth confirmed crossing (02 R31). A deferred DRIVE image is taken up last, after S_t and the
integrator are set: log 50, the model's choice. -/
def State.enterRun (s : State) : State :=
  let t := s.drive.interval
  let sM := s.speedOf 10000000 t
  let s1 : State := { s with drive := { s.drive with
    motor := .run, capRun := 6, capSeen := true, tLast := t, sM := sM, sT := min sM s.speedMax,
    integ := (s.drive.duty : Int) * 65536, pLast := 0, hold := none, foldMark := false, revCount := 0,
    crossTime := 0, crossKnown := true, revTime := 0, revKnown := true,
    nextComm := some (ticksOfUs (t / 2)), armed := false } }
  (s1.freeUsed.endCond .lostSync).takeUpDrive

/-- The crossing of a commutation in CAPTURE (02 R28). -/
def State.captureCrossing (s : State) (st : Nat) : State :=
  if 1 ≤ s.drive.capComms ∧ s.drive.capSeen = false ∧ st = s.drive.step then
    if s.drive.inWindow then
      if 6 ≤ s.drive.capRun + 1 then s.enterRun.settled
      else { s with drive := { s.drive with
               capRun := s.drive.capRun + 1, capSeen := true, crossTime := 0, crossKnown := true } }
    else { s with drive := { s.drive with capRun := 0, capSeen := true, crossTime := 0, crossKnown := true } }
  else s

/-! ### RUN (02 R32, R33, R38, R40) -/

/-- P of a speed error (02 R38). -/
def State.propTerm (s : State) (e : Int) : Int := truncDiv (e * s.kp) 65536

/-- The PI's upper bound: the foldback ceiling while the hold is on (02 R38, R40). -/
def State.dutyBound (s : State) : Nat :=
  match s.drive.hold with
  | some c => c
  | none => s.dutyMax

/-- The PI evaluation (02 R38). -/
def State.evalPI (s : State) : State :=
  let e : Int := (s.drive.sT : Int) - s.drive.sM
  let p := s.propTerm e
  let trial := s.drive.integ + e * s.ki
  let u := p + truncDiv trial 65536
  let within := decide ((s.dutyMin : Int) ≤ u) && decide (u ≤ s.dutyBound)
  { s with drive := { s.drive with
      duty := (clampInt s.dutyMin s.dutyBound u).toNat,
      integ := if within then trial else s.drive.integ,
      pLast := p } }

/-- The band that a speed moves up to from band b, in at most `n` moves (04 R78). -/
def State.bandUp (s : State) (speed : Nat) : Nat → Nat → Nat
  | 0, b => b
  | n + 1, b => if b < 7 ∧ s.bandField b 0 ≤ speed then s.bandUp speed n (b + 1) else b

/-- The band that a speed moves down to from band b, with its hysteresis (04 R78). -/
def State.bandDown (s : State) (speed : Nat) : Nat → Nat → Nat
  | 0, b => b
  | n + 1, b => if 0 < b ∧ speed + 1000 < s.bandField (b - 1) 0 then s.bandDown speed n (b - 1) else b

/-- The band of a speed (04 R78). -/
def State.bandOf (s : State) (speed : Nat) : Nat :=
  let up := s.bandUp speed 7 s.plan.band
  if up = s.plan.band then s.bandDown speed 7 s.plan.band else up

/-- The planner places S_m in a band (04 R78). -/
def State.planBand (s : State) : State := s.setBand (s.bandOf s.drive.sM)

/-- The foldback hold released after a revolution without foldback, and the mark of the next one cleared (02 R40). -/
def State.releaseHold (s : State) : State :=
  { s with drive := { s.drive with
      hold := if s.drive.foldMark then s.drive.hold else none, foldMark := false } }

/-- A revolution completion in RUN (02 R33, 04 R78). -/
def State.revolution (s : State) : State :=
  let s1 : State := { s with drive := { s.drive with
    revCount := 0, revTime := 0, sM := s.speedOf 60000000 (wholeUs s.drive.revTime) } }
  (s1.freeUsed.takeUpDrive.releaseHold.evalPI).planBand

/-- A crossing is accepted in RUN: of the step's expected direction, in the wait after its commutation, at least T_last /
8 after it (02 R32). -/
def Drive.accepts (d : Drive) (st : Nat) : Bool :=
  d.armed && decide (st = d.step) && decide (ticksOfUs d.tLast ≤ 8 * d.stepTime)

/-- A crossing in RUN (02 R32). -/
def State.runCrossing (s : State) (st : Nat) : State :=
  if s.drive.accepts st then
    let t := s.drive.interval
    let s1 : State := { s with drive := { s.drive with
      tLast := t, crossTime := 0, nextComm := some (ticksOfUs (t / 2)), armed := false,
      revCount := s.drive.revCount + 1 } }
    if 6 ≤ s1.drive.revCount then (if s.isPending .drive then s1.revolution.settled else s1.revolution) else s1
  else s

/-- The scheduled commutation of RUN (02 R32). -/
def State.commutate (s : State) : State :=
  if s.drive.motor = .run ∧ s.drive.nextComm = some 0 then
    { s with drive := { s.drive with
        step := nextStep s.drive.step, stepTime := 0, nextComm := none, armed := true } }
  else s

/-- One more failed attempt is counted. -/
def State.countAttempt (s : State) : State := { s with drive := { s.drive with attempts := s.drive.attempts + 1 } }

/-- Lost sync: COAST, LOST_SYNC, a failed attempt without a dwell, LOCKOUT above start_retries with the run demand still
up. Where the action of LOST_SYNC, HOLD or TRIP, takes the run demand down in this event, the motor stays in COAST (02
R34; log 9). -/
def State.lostSync (s : State) : State :=
  if s.drive.motor = .run ∧ 2 * ticksOfUs s.drive.tLast ≤ s.drive.crossTime then
    let s1 := ((s.enterCoast.raise .lostSync 0).countAttempt).settled
    if s1.drive.demand = true ∧ s1.startRetries < s1.drive.attempts then s1.enterLockout.settled else s1
  else s

/-! ### COAST and re-catch (02 R35, R36) -/

/-- A re-catch is due (02 R36). -/
def State.recatchDue (s : State) : Bool :=
  decide (s.drive.motor = .coast) && s.drive.demand && decide (s.drive.retry = none) && !s.drive.waitStop &&
  decide (s.handoverSpeed ≤ s.drive.sM)

/-- T_c at a crossing; without a previous crossing it is free (02 R35; log 6). -/
def State.coastInterval (s : State) : Nat :=
  if s.drive.crossKnown then s.drive.interval else Config.freeInterval s.freeCtr

/-- Speed of a revolution tracked with the bridge off; free where its origin is not known (02 R35; log 6). -/
def State.trackedSpeed (s : State) : Nat :=
  if s.drive.revKnown then s.speedOf 60000000 (wholeUs s.drive.revTime) else Config.freeSpeed s.freeCtr

/-- Speed tracking at a crossing in COAST and LOCKOUT (02 R35). -/
def State.track (s : State) (st : Nat) : State :=
  let done := decide (6 ≤ s.drive.revCount + 1)
  { s with
    drive := { s.drive with
      tC := s.coastInterval, coastStep := st, crossTime := 0, crossKnown := true, quiet := 0,
      revCount := if done then 0 else s.drive.revCount + 1,
      sM := if done then s.trackedSpeed else s.drive.sM,
      revTime := if done then 0 else s.drive.revTime,
      revKnown := s.drive.revKnown || done },
    freeCtr := s.freeCtr + 1 }

/-- A re-catch begins: a motor start, CAPTURE on the identified step with T_cap the crossing interval, its first
commutation T_cap / 2 later (02 R28, R36). -/
def State.recatch (s : State) : State :=
  ({ s with drive := { s.drive with
      motor := .capture, tCap := s.drive.tC, step := s.drive.coastStep, duty := 0, capComms := 0, capRun := 0,
      capSeen := false, nextComm := some (ticksOfUs (s.drive.tC / 2)), stepTime := 0 } }).leaveStopped.logMotorStart

/-- A crossing in COAST: tracking, then a stop below 1500 rpm at a revolution completion, or a re-catch that was due
before the crossing and still is (02 R35, R36; log 11). Where a handover speed below 1500 rpm lets both hold, the stop
comes first: log 49, the model's choice. -/
def State.coastCrossing (s : State) (st : Nat) : State :=
  let s1 := s.track st
  if 6 ≤ s.drive.revCount + 1 ∧ s1.drive.sM < 1500 then s1.enterStopped.settled
  else if s.recatchDue && s1.recatchDue then s1.recatch
  else s1

/-- Two crossings less than 20 ms apart in STOPPED mean a turning rotor (02 R25; log 8). -/
def State.stoppedCrossing (s : State) : State :=
  match s.drive.stopCross with
  | some t =>
    if t < ticksOfMs 20 then
      (({ s with drive := { s.drive with crossTime := 0, crossKnown := true } }).leaveStopped.enterCoast).settled
    else { s with drive := { s.drive with stopCross := some 0 } }
  | none => { s with drive := { s.drive with stopCross := some 0 } }

/-- A back-EMF crossing taken by the motor state; the comparators are watched in AWAKE only (02 R25, R28, R32, R35). -/
def State.crossing (s : State) (phase : Phase) (dir : Direction) : State :=
  if s.awake then
    match s.drive.motor with
    | .stopped => s.stoppedCrossing
    | .capture => s.captureCrossing (crossingStep phase dir)
    | .run => s.runCrossing (crossingStep phase dir)
    | .coast => s.coastCrossing (crossingStep phase dir)
    | .lockout => s.track (crossingStep phase dir)
    | .align => s
    | .rampOpen => s
    | .probe => s
  else s

/-- 20 ms without a crossing stop the motor (02 R35). -/
def State.coastStop (s : State) : State :=
  if s.drive.motor = .coast ∧ ticksOfMs 20 ≤ s.drive.quiet then s.enterStopped.settled else s

/-- The retry dwell ends (02 R29). -/
def State.retryEnd (s : State) : State :=
  if s.drive.retry = some 0 then (({ s with drive := { s.drive with retry := none } }).startIfDue).settled else s

/-! ### Ramp (02 R37) -/

/-- S_t after a ramp step. -/
def State.rampedTarget (s : State) : Nat :=
  let goal := s.rampGoal
  let t := s.drive.sT
  min s.speedMax
    (if t < goal then (if s.rampUp = 0 then goal else min goal (t + s.rampUp))
     else if goal < t then (if s.rampDown = 0 then goal else max goal (t - s.rampDown))
     else t)

/-- The 1 ms tick of the ramp; it moves S_t in RUN only (02 R37; log 12). -/
def State.rampTick (s : State) : State :=
  if s.awake && decide (ticksOfMs 1 ≤ s.drive.rampTime) then
    { s with drive := { s.drive with
        rampTime := s.drive.rampTime % ticksOfMs 1,
        sT := if s.drive.motor = .run then s.rampedTarget else s.drive.sT } }
  else s

/-! ### Each fast frame (02 R26, R39, R42) -/

/-- Pulse current of the probe, mA (02 R42). -/
def probeCurrent : Int := 8000

/-- Current holding at a current (02 R26). -/
def State.holdCurrent (s : State) (target ibus : Int) : State :=
  { s with drive := { s.drive with
      duty :=
        if ibus < target then min s.dutyMax (s.drive.duty + s.foldbackStep)
        else if target < ibus then s.drive.duty - s.foldbackStep
        else s.drive.duty } }

/-- The duty that a foldback leaves; a foldback does not raise the duty (02 R39; log 30). -/
def State.foldedDuty (s : State) : Nat := min s.drive.duty (max s.dutyMin (s.drive.duty - s.foldbackStep))

/-- A foldback (02 R39). -/
def State.foldback (s : State) : State :=
  { s with drive := { s.drive with
      duty := s.foldedDuty,
      integ := ((s.foldedDuty : Int) - s.drive.pLast) * 65536,
      hold := some s.foldedDuty,
      foldMark := true } }

/-- L_m is formed (02 R39). -/
def State.formLimit (s : State) : State := { s with drive := { s.drive with lM := min s.pack.budget s.iMax } }

/-- A probe pulse is under way (05 R103). -/
def State.inPulse (s : State) : Bool :=
  match s.pack.probe with
  | .pulse _ => true
  | .rest _ => false
  | .idle => false

/-- The drive unit in a fast frame of AWAKE, with the frame's IBUS value (02 R26, R39, R42). -/
def State.driveFrame (s : State) (ibus : Int) : State :=
  let s1 := s.formLimit
  match s1.drive.motor with
  | .align => s1.holdCurrent s1.alignCurrent ibus
  | .rampOpen => s1.holdCurrent s1.alignCurrent ibus
  | .capture => s1.holdCurrent s1.alignCurrent ibus
  | .probe => if s1.inPulse then s1.holdCurrent probeCurrent ibus else s1
  | .run => if (s1.drive.lM : Int) < ibus then s1.foldback else s1
  | .stopped => s1
  | .coast => s1
  | .lockout => s1

/-! ### Meanings -/

/-- ALIGN_TIME (02 R26). -/
def execAlignTime (s : State) : Host.Outcome State Fault Refusal := .next s.alignEnd

/-- OPEN_STEP_END (02 R27). -/
def execOpenStepEnd (s : State) : Host.Outcome State Fault Refusal := .next s.openStepEnd

/-- CAPTURE_COMMUTATION (02 R28). -/
def execCaptureCommutation (s : State) : Host.Outcome State Fault Refusal := .next s.captureStep

/-- RETRY_DWELL (02 R29). -/
def execRetryDwell (s : State) : Host.Outcome State Fault Refusal := .next s.retryEnd

/-- ZERO_CROSSING (02 R25, R28, R32, R35). -/
def execZeroCrossing (phase : Phase) (dir : Direction) (s : State) : Host.Outcome State Fault Refusal :=
  .next (s.crossing phase dir)

/-- SCHEDULED_COMMUTATION (02 R32). -/
def execScheduledCommutation (s : State) : Host.Outcome State Fault Refusal := .next s.commutate

/-- LOST_SYNC (02 R34). -/
def execLostSync (s : State) : Host.Outcome State Fault Refusal := .next s.lostSync

/-- COAST_STOP (02 R35). -/
def execCoastStop (s : State) : Host.Outcome State Fault Refusal := .next s.coastStop

/-- RAMP_STEP (02 R37). -/
def execRampStep (s : State) : Host.Outcome State Fault Refusal := .next s.rampTick

end Sys2Proof.Machine
end

