-- ==== Sys2Proof/Machine/Dirt.lean ====
section
/-! DEFINITION. The dirt unit (03): the impact detector on unblanked samples, classification, the optical sum, and the
window close. -/

namespace Sys2Proof.Machine

/-! ### The impact detector (03 R47 to R51) -/

/-- Elapsed counts stop at 800 samples (03 R49). -/
def continuousLength : Nat := 800

/-- An impact begins at a sample (03 R48). -/
def Detector.begin (pz : Nat) : Detector where
  state := .impact
  elapsed := 1
  peak := pz
  duration := 1
  tail := 0
  cont := false

/-- The impact's elapsed count and peak at a further sample (03 R49). -/
def Detector.count (d : Detector) (pz : Nat) : Detector :=
  { d with elapsed := min continuousLength (d.elapsed + 1), peak := max d.peak pz }

/-- A sample at or above L: the duration becomes the elapsed count (03 R49). -/
def Detector.extend (d : Detector) : Detector :=
  { d with
    state := .impact, duration := d.elapsed, tail := 0,
    cont := d.cont || decide (continuousLength ≤ d.elapsed) }

/-- A sample below L: TAIL, one more tail sample (03 R49). -/
def Detector.decay (d : Detector) : Detector :=
  { d with state := .tail, tail := if d.state = .tail then d.tail + 1 else 1 }

/-- The lowest bounds of bin b, 1..6: peak, duration and weight (03 R60). -/
def State.binPeak (s : State) (b : Nat) : Nat := s.dirtField (8 + 3 * b)
def State.binDuration (s : State) (b : Nat) : Nat := s.dirtField (9 + 3 * b)
def State.binWeight (s : State) (b : Nat) : Nat := s.dirtField (10 + 3 * b)

/-- Whether an impact meets both bounds of a bin (03 R51). -/
def State.meetsBin (s : State) (d : Detector) (b : Nat) : Bool :=
  decide (s.binPeak b ≤ d.peak) && decide (s.binDuration b ≤ d.duration)

/-- The highest-numbered bin that an impact meets (03 R51). -/
def State.binOf (s : State) (d : Detector) : Option Nat :=
  (List.range 6).foldl (fun best i => if s.meetsBin d (i + 1) then some (i + 1) else best) none

/-- One of the window's counts raised. -/
def bumpAt (xs : List Nat) (i : Nat) : List Nat := xs.set i (satCount (xs.getD i 0 + 1))

/-- An impact that ends is counted in the window under way; the detector returns to QUIET (03 R51). -/
def State.classify (s : State) (d : Detector) : State :=
  if d.cont then
    { s with dirt := { s.dirt with det := Detector.quiet, contTally := satCount (s.dirt.contTally + 1) } }
  else
    match s.binOf d with
    | some b => { s with dirt := { s.dirt with det := Detector.quiet, bins := bumpAt s.dirt.bins (b - 1) } }
    | none => { s with dirt := { s.dirt with det := Detector.quiet, rejected := satCount (s.dirt.rejected + 1) } }

/-- The detector replaced. -/
def State.withDetector (s : State) (d : Detector) : State := { s with dirt := { s.dirt with det := d } }

/-- An unblanked sample at the detector (03 R48, R49, R51). -/
def State.detect (s : State) (pz : Nat) : State :=
  if s.dirt.det.state = .quiet then
    (if s.dirt.armA ≤ pz then s.withDetector (Detector.begin pz) else s)
  else
    let d := s.dirt.det.count pz
    if s.dirt.relL ≤ pz then s.withDetector d.extend
    else
      let t := d.decay
      if s.dirt.det.state = .tail ∧ s.dirtField 0 ≤ t.tail then s.classify t else s.withDetector t

/-- The window's samples counted (03 R45). -/
def State.countSample (s : State) (blanked : Bool) : State :=
  { s with dirt := { s.dirt with
      winSamples := s.dirt.winSamples + 1,
      winBlanked := if blanked then s.dirt.winBlanked + 1 else s.dirt.winBlanked } }

/-- A PZ sample of AWAKE (03 R45 to R47): a blanked one discards an impact under way. -/
def State.dirtSample (s : State) (value : Int) : State :=
  let pz := (clampInt 0 4095 value).toNat
  if s.blanking then (s.countSample true).withDetector Detector.quiet
  else (s.countSample false).detect pz

/-! ### The optical sum (03 R53) -/

/-- A scan's optical value joins the window in AWAKE. -/
def State.dirtScan (s : State) (x : ScanSet) : State :=
  match x.opt with
  | some v =>
    if s.awake then
      { s with dirt := { s.dirt with optSum := s.dirt.optSum + v, optCount := s.dirt.optCount + 1 } }
    else s
  | none => s

/-! ### The window close (03 R54 to R59, R62) -/

/-- PZ samples of a whole window (03 R54). -/
def State.windowLength (s : State) : Nat := s.dirtField 1 * 80

/-- Sum over the bins of weight times count (03 R55). -/
def State.binScore (s : State) : Nat :=
  (List.range 6).foldl (fun a i => a + s.binWeight (i + 1) * s.dirt.bins.getD i 0) 0

/-- The optical term (03 R55). -/
def State.optTerm (s : State) : Nat :=
  if s.dirt.optCount = 0 then 0
  else
    let mean := floorDiv s.dirt.optSum s.dirt.optCount
    (floorDiv (max 0 (mean - s.dirtField 2) * s.dirtField 3) 256).toNat

/-- The score (03 R55). -/
def State.score (s : State) : Nat := s.binScore + s.optTerm

/-- The window is blanked (03 R56). -/
def State.windowBlanked (s : State) : Bool := decide (s.dirt.winSamples < 2 * s.dirt.winBlanked)

/-- The highest level whose rise threshold a score reaches, 0 for none (03 R57). -/
def State.riseLevel (s : State) (score : Nat) : Nat :=
  if s.dirtField 6 ≤ score then 3 else if s.dirtField 5 ≤ score then 2 else if s.dirtField 4 ≤ score then 1 else 0

/-- Fall threshold of a level 1..3 (03 R58). -/
def State.fallThreshold (s : State) (level : Nat) : Nat := s.dirtField (6 + level)

/-- Level and fall-hold count after a close (03 R56 to R58). -/
def State.levelAfter (s : State) (score : Nat) : Nat × Nat :=
  if s.windowBlanked then (s.dirt.level, s.dirt.fallHold)
  else if s.dirt.level < s.riseLevel score then (s.riseLevel score, 0)
  else if s.dirt.level = 0 then (s.dirt.level, s.dirt.fallHold)
  else if s.fallThreshold s.dirt.level ≤ score then (s.dirt.level, 0)
  else if s.dirtField 10 ≤ s.dirt.fallHold + 1 then (s.dirt.level - 1, 0)
  else (s.dirt.level, s.dirt.fallHold + 1)

/-- The last window record of a close (03 R59). -/
def State.windowRecord (s : State) : WindowRecord where
  bins := s.dirt.bins
  rejected := s.dirt.rejected
  cont := s.dirt.contTally
  optTerm := s.optTerm
  score := s.score
  blanked := s.windowBlanked
  level := (s.levelAfter s.score).1
  fallHold := (s.levelAfter s.score).2

/-- The closed window's counts go to an open CLEAN session (03 R59, 09 R160). -/
def Session.takeWindow (a : Session) (w : WindowRecord) : Session :=
  if a.kind = .clean then
    { a with
      bins := a.bins.zipWith (fun m n => satCount (m + n)) w.bins,
      rejected := satCount (a.rejected + w.rejected),
      cont := satCount (a.cont + w.cont),
      peakLevel := max a.peakLevel w.level }
  else a

/-- The window closes: score and level settled, figures handed on, the next window begun (03 R55 to R59). -/
def State.closeWindow (s : State) : State :=
  let w := s.windowRecord
  { s with
    log := { s.log with session := s.log.session.map fun a => a.takeWindow w },
    dirt := { s.dirt with
      lastWin := w, level := w.level, fallHold := w.fallHold,
      winSamples := 0, winBlanked := 0, bins := List.replicate 6 0, rejected := 0, contTally := 0,
      optSum := 0, optCount := 0 } }

/-- A whole window of AWAKE has been sampled (03 R54). -/
def State.windowDue (s : State) : Bool := s.awake && decide (s.windowLength ≤ s.dirt.winSamples)

/-- The close, at whose end a pending DIRT image is taken up (03 R62). -/
def State.windowClose (s : State) : State := if s.windowDue then (s.closeWindow.takeUp .dirt).settled else s

/-- The band blank has run down to 0 (03 R46). -/
def State.endBandBlank (s : State) : State :=
  if s.dirt.bandBlank = some 0 then { s with dirt := { s.dirt with bandBlank := none } } else s

/-! ### Meanings -/

/-- WINDOW_CLOSE (03 R54). -/
def execWindowClose (s : State) : Host.Outcome State Fault Refusal := .next s.windowClose

/-- BAND_BLANK (03 R46). -/
def execBandBlank (s : State) : Host.Outcome State Fault Refusal := .next s.endBandBlank

end Sys2Proof.Machine
end

