-- ==== Sys2Proof/Machine/Sampling.lean ====
section
/-! DEFINITION. The sample traffic's steps (01): a fast frame, the end of a slot, the completion of a scan with its
hand-over to the consumers, and the start of a SLEEP scan. -/

namespace Sys2Proof.Machine

/-! ### Fast frames (01 R1, R15) -/

/-- A fast frame can come: a scan is in flight, its slot and, in AWAKE, the dirt window have room for it (01 R1, R2, 03
R54; log 5). -/
def State.frameDue (s : State) : Bool :=
  s.live && s.acq.scanning && decide (s.acq.slotFrames < 10) && decide (s.acq.slotIndex < s.slotCount) &&
  (!s.awake || decide (s.dirt.winSamples < s.windowLength))

/-- The frame's IBUS value joins the accumulator (01 R15). -/
def State.accumulate (s : State) : State :=
  { s with acq := { s.acq with
      accSum := s.acq.accSum + s.acq.latest.getD 0 0, accCount := s.acq.accCount + 1,
      slotFrames := s.acq.slotFrames + 1 } }

/-- The frame's values handed to the drive and dirt units, in AWAKE (01 R1). -/
def State.handFast (s : State) : State :=
  if s.awake then (s.driveFrame (s.acq.latest.getD 0 0)).dirtSample (s.acq.latest.getD 2 0) else s

/-- Some sample of the frame changes a saturation flag or a side condition. -/
def State.frameChanges (s : State) (ibus iph pz : Nat) : Bool :=
  s.sampleChanges 0 ibus || s.sampleChanges 1 iph || s.sampleChanges 2 pz

/-- A fast frame's three samples checked, with what a changed condition brings about. -/
def State.checkFast (s : State) (ibus iph pz : Nat) : State :=
  if s.frameChanges ibus iph pz then (s.takeFast ibus iph pz).settled else s.takeFast ibus iph pz

/-- A fast frame (01 R1). -/
def State.fastFrame (s : State) (ibus iph pz : Nat) : State :=
  if s.frameDue then ((s.checkFast ibus iph pz).accumulate).handFast else s

/-! ### Slots (01 R2, R6, R13) -/

/-- The end of a slot can come: its ten fast frames have been taken (01 R1, R2). -/
def State.slotDue (s : State) : Bool :=
  s.live && s.acq.scanning && decide (s.acq.slotFrames = 10) && decide (s.acq.slotIndex < s.slotCount)

/-- The scan's record of a slow sample: its value, and for a cell the last unsaturated value or the mark (01 R2, R6). -/
def Acq.recordSlot (a : Acq) (ch : Nat) (v : Int) (sat : Bool) : Acq :=
  let cell := decide (5 ≤ ch ∧ ch ≤ 11)
  { a with
    scanVals := a.scanVals.set ch (some v),
    scanSat := if cell && sat then a.scanSat.set (ch - 5) true else a.scanSat,
    lastGood := if cell && !sat then a.lastGood.set (ch - 5) v else a.lastGood,
    slotIndex := a.slotIndex + 1,
    slotFrames := 0 }

/-- A slow sample checked, with what a changed condition brings about. -/
def State.checkSlow (s : State) (ch raw : Nat) : State :=
  if s.sampleChanges ch raw then (s.takeSample ch raw).settled else s.takeSample ch raw

/-- The end of a slot (01 R2). -/
def State.slotEnd (s : State) (raw : Nat) : State :=
  if s.slotDue then
    let ch := s.slotChannel (s.acq.slotIndex + 1)
    let s1 := s.checkSlow ch raw
    { s1 with acq := s1.acq.recordSlot ch (convert (s.channelEntry ch) raw) (saturated raw) }
  else s

/-! ### Scan completion (01 R16) -/

/-- The last slot of the scan has ended. -/
def State.completionDue (s : State) : Bool :=
  s.live && s.acq.scanning && decide (s.slotCount ≤ s.acq.slotIndex)

/-- A slow channel's value in the set: this scan's, or the kept latest value (01 R13, R16). -/
def Acq.slowValue (a : Acq) (ch : Nat) : Int := (a.scanVals.getD ch none).getD (a.latest.getD ch 0)

/-- The set of the scan (01 R16). -/
def State.scanSet (s : State) : ScanSet where
  cells := s.acq.lastGood
  cellSat := s.acq.scanSat
  vbus := s.acq.slowValue 3
  vdock := s.acq.slowValue 4
  tp1 := s.acq.slowValue 12
  tp2 := s.acq.slowValue 13
  tbrg := s.acq.slowValue 14
  opt := s.acq.scanVals.getD 15 none
  iScan := roundDiv s.acq.accSum s.acq.accCount
  durationUs := s.slotCount * 125
  asleep := s.acq.scanAsleep

/-- The set becomes the latest completed scan; power control notes the first scan begun after the wake or reset (01
R16, 11 R187), and the completion is the suspended one where a probe has ended since the one before (05 R89). -/
def State.finishScan (s : State) : State :=
  { s with
    acq := { s.acq with scanning := false, lastSet := some s.scanSet },
    pack := { s.pack with skipNow := s.pack.skipEst, skipEst := false },
    power := { s.power with settleScan := s.power.settleScan || s.acq.scanFresh } }

/-- No consumer has ended the hand-over by SHIP entry or a reset. -/
def State.stillOn (s : State) : Bool := s.live && isHeld s.acq.lastSet

/-- The pack monitor's part, with the planner's latch test, which uses the B of this scan (05 R88, 04 R73). -/
def State.packPart (s : State) (x : ScanSet) : State :=
  if s.stillOn then ((s.packScan x).latchTest).settled else s

/-- The charge unit's part (06). -/
def State.chargePart (s : State) (x : ScanSet) : State := if s.stillOn then (s.chargeScan x).settled else s

/-- The planner's part (04 R80). -/
def State.planPart (s : State) (x : ScanSet) : State := if s.stillOn then (s.blockageScan x).settled else s

/-- The scan changes dock presence or meets the exit test of the running phase. -/
def State.chargeTurns (s : State) (x : ScanSet) : Bool :=
  decide (100000 ≤ s.highTimeAfter x) || decide (20000 ≤ s.lowTimeAfter x) ||
  match s.runningPhase with
  | some p => s.exitMet x p
  | none => false

/-- The order of the consumers matters: one of them turns something that another reads. `p` is the state after the pack
monitor's part. -/
def State.orderMatters (s : State) (x : ScanSet) (p : State) : Bool :=
  s.chargeTurns x || s.blockageTurns x || decide (s.qualifies ≠ p.qualifies)

/-- The consumers in one of their six orders. -/
def State.inOrder (s : State) (x : ScanSet) (n : Nat) : State :=
  match n % 6 with
  | 0 => ((s.packPart x).chargePart x).planPart x
  | 1 => ((s.packPart x).planPart x).chargePart x
  | 2 => ((s.chargePart x).packPart x).planPart x
  | 3 => ((s.chargePart x).planPart x).packPart x
  | 4 => ((s.planPart x).packPart x).chargePart x
  | _ => ((s.planPart x).chargePart x).packPart x

/-- The set handed on. There is no order among the consumers (01 R16): where it matters, it is free (log 4). -/
def State.handOn (s : State) (x : ScanSet) : State :=
  let p := s.packPart x
  if s.orderMatters x p then s.freeUsed.inOrder x (Config.freeOrder s.freeCtr)
  else (p.chargePart x).planPart x

/-- The completion of a scan (01 R3, R16); what it leaves in the pack monitor is what telemetry reports (05 R107). The
dirt unit comes first of the consumers, so before a wake by dock presence in the same completion (03 R53): log 45, the
model's choice. -/
def State.scanCompletion (s : State) : State :=
  if s.completionDue then
    ((((s.finishScan.dirtScan s.scanSet).handOn s.scanSet).startScanIfAwake).settled).keepReport
  else s

/-- A SLEEP scan is due: one a second, start to start (01 R3). -/
def State.sleepScanDue (s : State) : Bool :=
  s.live && !s.awake && !s.acq.scanning && decide (ticksOfMs 1000 ≤ s.acq.sleepTimer)

/-- The start of a SLEEP scan (01 R3, R11, R14). -/
def State.sleepScanStart (s : State) : State :=
  if s.sleepScanDue then
    let s1 := s.startScan
    ({ s1 with acq := { s1.acq with sleepTimer := 0 } }).settled
  else s

/-! ### Meanings -/

/-- FAST_FRAME (01 R1). -/
def execFastFrame (ibus iph pz : Nat) (s : State) : Host.Outcome State Fault Refusal := .next (s.fastFrame ibus iph pz)

/-- SLOT_END (01 R2). -/
def execSlotEnd (raw : Nat) (s : State) : Host.Outcome State Fault Refusal := .next (s.slotEnd raw)

/-- SCAN_COMPLETION (01 R16). -/
def execScanCompletion (s : State) : Host.Outcome State Fault Refusal := .next s.scanCompletion

/-- SLEEP_SCAN_START (01 R3). -/
def execSleepScanStart (s : State) : Host.Outcome State Fault Refusal := .next s.sleepScanStart

end Sys2Proof.Machine
end

