-- ==== Sys2Proof/Machine/Contact.lean ====
section
/-! DEFINITION. The contact modem (07): bit-times and carrier, characters, the receive FIFO, the reply window and the
transmitter. The parser's side of the FIFO is in Frames.lean. -/

namespace Sys2Proof.Machine

/-! ### Receive FIFO (07 R133) -/

/-- Places of the receive FIFO. -/
def fifoSize : Nat := 32

/-- An entry that stands for a character, so that its loss counts. -/
def FifoEntry.counts : FifoEntry → Bool
  | .byte _ _ => true | .parity => true | .stop => true
  | .brk => false | .overrun => false

/-- An entry dropped at a full FIFO. -/
def Modem.drop (m : Modem) (e : FifoEntry) : Modem :=
  { m with overrun := true, rxOverrun := if e.counts then satCount (m.rxOverrun + 1) else m.rxOverrun }

/-- An entry offered to the FIFO. -/
def Modem.offer (m : Modem) (e : FifoEntry) : Modem :=
  if fifoSize ≤ m.fifo.length then m.drop e
  else if m.overrun then
    let m1 : Modem := { m with fifo := m.fifo ++ [.overrun], overrun := false }
    if fifoSize ≤ m1.fifo.length then m1.drop e else { m1 with fifo := m1.fifo ++ [e] }
  else { m with fifo := m.fifo ++ [e] }

/-- The head removed; an owed overrun mark takes the freed place. -/
def Modem.pop (m : Modem) : Modem :=
  if m.overrun then { m with fifo := m.fifo.drop 1 ++ [.overrun], overrun := false }
  else { m with fifo := m.fifo.drop 1 }

/-! ### Bit-times (07 R130 to R132) -/

/-- Carrier assertion and deassertion are due. -/
def Modem.assertDue (m : Modem) : Bool := !m.carrier && decide (6 ≤ m.toneRun)
def Modem.deassertDue (m : Modem) : Bool := m.carrier && decide (3 ≤ m.silRun)

/-- Bit-times of the character in reception, when all ten have been taken. -/
def Modem.fullCharacter (m : Modem) : Option (List BitClass) :=
  match m.rx with
  | .character bits => if 10 ≤ bits.length then some bits else none
  | .idle => none
  | .off => none

/-- A break mark is due after 22 bit-times of carrier without a start bit (07 R132). -/
def Modem.breakMarkDue (m : Modem) : Bool :=
  m.breakDue && m.carrier && decide (m.rx = .idle) && decide (22 ≤ m.bitsSince)

/-- A step of the modem is due, so that the next bit-time has not come yet (log 22). -/
def Modem.stepDue (m : Modem) : Bool :=
  m.assertDue || m.deassertDue || isHeld m.fullCharacter || m.breakMarkDue

/-- The receiver at a bit-time with carrier PRESENT (07 R131, R132). -/
def Modem.receive (m : Modem) (bit : BitClass) : Modem :=
  match m.rx with
  | .idle =>
    if bit = .space then { m with rx := .character [] } else { m with bitsSince := min 22 (m.bitsSince + 1) }
  | .character bits => { m with rx := .character (bits ++ [bit]) }
  | .off => m

/-- A received bit-time (07 R130). -/
def Modem.bitTime (m : Modem) (bit : BitClass) : Modem :=
  if m.carrier then
    let m1 := m.receive bit
    { m1 with silRun := if bit = .noTone then m.silRun + 1 else 0 }
  else { m with toneRun := if bit = .noTone then 0 else m.toneRun + 1 }

/-- The modem replaced. -/
def State.withModem (s : State) (m : Modem) : State := { s with modem := m }

/-- The modem listens: AWAKE with the transmitter IDLE. -/
def State.listening (s : State) : Bool := s.awake && decide (s.modem.tx = none)

/-- A bit-time taken (07 R130). -/
def State.bitTime (s : State) (bit : BitClass) : State :=
  if s.listening && !s.modem.stepDue then s.withModem (s.modem.bitTime bit) else s

/-! ### Characters (07 R131) -/

/-- Value of a data or parity bit-time: no tone is taken as mark. -/
def bitValue (b : BitClass) : Nat := if b = .space then 0 else 1

/-- Byte of the first eight bit-times, least significant first. -/
def characterByte (bits : List BitClass) : Byte :=
  BitVec.ofNat 8 ((List.range 8).foldl (fun a i => a + bitValue (bits.getD i .mark) * 2 ^ i) 0)

/-- The data bits and the parity bit hold an even number of ones. -/
def parityEven (bits : List BitClass) : Bool := (bits.take 9).foldl (fun a b => a + bitValue b) 0 % 2 = 0

/-- The stop bit is a mark. -/
def stopGood (bits : List BitClass) : Bool := decide (bits.getD 9 .noTone = .mark)

/-- Entry and counts of a complete character. -/
def Modem.takeCharacter (m : Modem) (bits : List BitClass) : Modem :=
  let m1 : Modem := { m with rx := .idle, breakDue := true, bitsSince := 0 }
  if !stopGood bits then ({ m1 with rxStop := satCount (m1.rxStop + 1) }).offer .stop
  else if !parityEven bits then ({ m1 with rxParity := satCount (m1.rxParity + 1) }).offer .parity
  else m1.offer (.byte (characterByte bits) m.period)

/-- A character completes (07 R131). -/
def State.characterComplete (s : State) : State :=
  match s.modem.fullCharacter with
  | some bits => if s.listening then s.withModem (s.modem.takeCharacter bits) else s
  | none => s

/-- The break mark of a quiet stretch (07 R132). -/
def State.breakMark (s : State) : State :=
  if s.listening && s.modem.breakMarkDue then
    s.withModem ({ s.modem with breakDue := false }.offer .brk)
  else s

/-! ### Transmitter and reply window (07 R135 to R137) -/

/-- A transmission begins with the preamble; the window closes and the receiver is OFF (07 R137). -/
def Modem.transmit (m : Modem) (a : Answer) : Modem :=
  { m with
    tx := some { stage := .preamble, answer := a, time := 0 }, buf := none, window := none,
    rx := .off, carrier := false, toneRun := 0, silRun := 0 }

/-- An answer discarded without transmission: REPLY_MISSED rises, and the soft reset of a discarded RESET answer is
taken (07 R135, R136, 11 R188). -/
def State.discardAnswer (s : State) (a : Answer) : State :=
  let s1 := s.withModem { s.modem with buf := none, replyMissed := satCount (s.modem.replyMissed + 1) }
  if a.tag = .resetOk then s1.takeReset .soft else s1

/-- An answer waiting in the transmit buffer is discarded. -/
def State.discardBuffered (s : State) : State :=
  match s.modem.buf with
  | some a => s.discardAnswer a
  | none => s

/-- Carrier rises: a new period, and an open window closes with the answer that waited (07 R130, R135). -/
def State.carrierAssert (s : State) : State :=
  if s.listening && s.modem.assertDue then
    (s.withModem { s.modem with
      carrier := true, toneRun := 0, silRun := 0, period := (s.modem.period + 1) % 256, window := none }).discardBuffered
  else s

/-- The modem at the fall of carrier: a character is abandoned, an owed break mark is given, the window of the ended
period opens with 10 ms (07 R130 to R132, R135). -/
def Modem.carrierFalls (m : Modem) : Modem :=
  let m1 : Modem := { m with
    carrier := false, toneRun := 0, silRun := 0, rx := .idle, breakDue := false, bitsSince := 0 }
  let m2 := if m.breakDue then m1.offer .brk else m1
  { m2 with window := some (m.period, ticksOfMs 10) }

/-- The answer in the buffer at the opening of a window: sent if it is of the window's period, otherwise discarded (07
R135). -/
def State.openWindow (s : State) : State :=
  match s.modem.buf with
  | some a => if a.period = s.modem.period then s.withModem (s.modem.transmit a) else s.discardAnswer a
  | none => s

/-- Carrier falls (07 R130). -/
def State.carrierDeassert (s : State) : State :=
  if s.listening && s.modem.deassertDue then (s.withModem s.modem.carrierFalls).openWindow else s

/-- The 10 ms of the window run out (07 R135). -/
def State.windowExpiry (s : State) : State :=
  match s.modem.window with
  | some w => if w.2 = 0 then (s.withModem { s.modem with window := none }).discardBuffered else s
  | none => s

/-- The window is open for a period. -/
def Modem.windowFor (m : Modem) (period : Nat) : Bool :=
  match m.window with
  | some w => decide (w.1 = period) && decide (m.tx = none)
  | none => false

/-- An answer to a dock request handed to the modem (07 R136). -/
def State.handDock (s : State) (a : Answer) : State :=
  if s.modem.windowFor a.period then s.withModem (s.modem.transmit a)
  else if s.modem.window = none ∧ s.modem.carrier = true ∧ s.modem.period = a.period then
    s.withModem { s.modem with
      buf := some a,
      replyMissed := if isHeld s.modem.buf then satCount (s.modem.replyMissed + 1) else s.modem.replyMissed }
  else s.discardAnswer a

/-- Length of a stage in bit-times (07 R137). -/
def ContactTx.bits (x : ContactTx) : Nat :=
  match x.stage with
  | .preamble => 8
  | .frame => 11 * x.answer.bytes.length
  | .postamble => 2

/-- Tone of a bit: space for 0, mark for 1. -/
def bitTone (b : Bool) : BitClass := if b then .mark else .space

/-- The eight data bits of a character, least significant first. -/
def dataBits (b : Byte) : List Bool := (List.range 8).map fun i => b.getLsbD i

/-- The even parity bit of a character. -/
def parityBit (b : Byte) : Bool := (dataBits b).countP id % 2 = 1

/-- The 11 bit-times of a character: start bit, data, even parity, mark stop bit (07 R131, R137). -/
def characterTones (b : Byte) : List BitClass :=
  .space :: (dataBits b).map bitTone ++ [bitTone (parityBit b), .mark]

/-- Tone of a transmission in the bit-time under way: mark in preamble and postamble, the answer's characters back to
back in the frame (07 R137). -/
def ContactTx.tone (x : ContactTx) : BitClass :=
  match x.stage with
  | .preamble => .mark
  | .frame => (x.answer.bytes.flatMap characterTones).getD (x.time / ticksOfBits 1) .mark
  | .postamble => .mark

/-- The part's own tone on the contacts: none while the transmitter is IDLE (07 R137). -/
def Modem.toneOut (m : Modem) : BitClass :=
  match m.tx with
  | some x => x.tone
  | none => .noTone

/-- The stage of a transmission has run its time. -/
def ContactTx.stageOver (x : ContactTx) : Bool := decide (ticksOfBits x.bits ≤ x.time)

/-- The end of the preamble or of the frame (07 R137). -/
def State.stageEnd (s : State) : State :=
  match s.modem.tx with
  | none => s
  | some x =>
    if x.stageOver then
      match x.stage with
      | .preamble => s.withModem { s.modem with tx := some { x with stage := .frame, time := 0 } }
      | .frame => s.withModem { s.modem with tx := some { x with stage := .postamble, time := 0 } }
      | .postamble => s
    else s

/-- The end of the postamble: transmitter and receiver IDLE; a RESET answer brings its soft reset (07 R137, 11 R188). -/
def State.transmissionEnd (s : State) : State :=
  match s.modem.tx with
  | none => s
  | some x =>
    if x.stage = .postamble ∧ x.stageOver = true then
      let s1 := s.withModem { s.modem with tx := none, rx := .idle, toneRun := 0, silRun := 0 }
      if x.answer.tag = .resetOk then s1.takeReset .soft else s1
    else s

/-! ### Meanings -/

/-- RECEIVED_BIT_TIME (07 R130). -/
def execReceivedBitTime (bit : BitClass) (s : State) : Host.Outcome State Fault Refusal := .next (s.bitTime bit)

/-- CARRIER_ASSERT (07 R130). -/
def execCarrierAssert (s : State) : Host.Outcome State Fault Refusal := .next s.carrierAssert

/-- CARRIER_DEASSERT (07 R130). -/
def execCarrierDeassert (s : State) : Host.Outcome State Fault Refusal := .next s.carrierDeassert

/-- CHARACTER_COMPLETE (07 R131). -/
def execCharacterComplete (s : State) : Host.Outcome State Fault Refusal := .next s.characterComplete

/-- BREAK_MARK (07 R132). -/
def execBreakMark (s : State) : Host.Outcome State Fault Refusal := .next s.breakMark

/-- REPLY_WINDOW_EXPIRY (07 R135). -/
def execReplyWindowExpiry (s : State) : Host.Outcome State Fault Refusal := .next s.windowExpiry

/-- TRANSMIT_STAGE_END (07 R137). -/
def execTransmitStageEnd (s : State) : Host.Outcome State Fault Refusal := .next s.stageEnd

/-- TRANSMISSION_END (07 R137). -/
def execTransmissionEnd (s : State) : Host.Outcome State Fault Refusal := .next s.transmissionEnd

end Sys2Proof.Machine
end

