-- ==== Sys2Proof/Machine/Frames.lean ====
section
/-! DEFINITION. The frame unit's links (10): parsers and request slots, the chassis transmitter, the start-up window,
telemetry (12 section 12.6), and the contact FIFO's entries at the parser (07 R134). -/

namespace Sys2Proof.Machine

/-! ### Codes (12 section 12.2) -/

def motorCode : MotorState → Nat
  | .stopped => 0 | .align => 1 | .rampOpen => 2 | .capture => 3
  | .run => 4 | .coast => 5 | .lockout => 6 | .probe => 7

def pathCode : Path → Nat
  | .opened => 0 | .discharge => 1 | .charge => 2

def presenceCode : Presence → Nat
  | .undecided => 0 | .absent => 1 | .present => 2

def probeStateCode : ProbeState → Nat
  | .idle => 0 | .pulse k => k | .rest k => 3 + k

/-- Charge stage: no session, RUNNING, FAULTED. -/
def stageCode : Option ChargeSession → Nat
  | none => 0
  | some x => if x.faulted then 2 else 1

/-- Phase index, or the no-phase mark. -/
def phaseCode : Option ChargeSession → Nat
  | none => 255
  | some x => x.phase

/-! ### Chassis transmitter (10 R170) -/

/-- An answer waiting for the buffer enters it; its service ends there and the slot is emptied. In SLEEP too: log 53, the
model's choice. -/
def Frame.refill (f : Frame) : Frame :=
  match f.waiting with
  | some w => { f with txBuf := some w, waiting := none, chSlot := none }
  | none => { f with txBuf := none }

/-- An idle transmitter takes the answer in the buffer, else the next telemetry frame. -/
def Frame.pump (f : Frame) : Frame :=
  match f.sending with
  | some _ => f
  | none =>
    match f.txBuf with
    | some a => { f.refill with sending := some (a, 0) }
    | none =>
      match f.telem with
      | t :: rest => { f with sending := some (t, 0), telem := rest }
      | [] => f

/-- An answer handed to the chassis link: into the buffer, or waiting for it with its request still in the slot. -/
def Frame.give (f : Frame) (a : TxFrame) : Frame :=
  match f.txBuf with
  | none => ({ f with txBuf := some a, chSlot := none }).pump
  | some _ => { f with waiting := some a }

/-- The frame unit replaced. -/
def State.withFrame (s : State) (f : Frame) : State := { s with frame := f }

/-- Time of a frame on the chassis line: 10 us per character (10 R168). -/
def TxFrame.ticks (f : TxFrame) : Nat := ticksOfUs (10 * f.bytes.length)

/-- What the end of a frame brings about: SHIP entry after an accepted SHIP, the soft reset after a RESET (11 R186,
R188). -/
def State.afterFrame (s : State) (tag : FrameTag) : State :=
  match tag with
  | .plain => s
  | .shipOk => if s.power.shipPending then s.enterShip else s
  | .resetOk => s.takeReset .soft

/-- The transmitter has sent its frame (10 R170). -/
def State.frameSent (s : State) : State :=
  match s.frame.sending with
  | some x =>
    if s.live && decide (x.1.ticks ≤ x.2) then
      (s.withFrame ({ s.frame with sending := none }).pump).afterFrame x.1.tag
    else s
  | none => s

/-! ### Reception (10 R168, R169) -/

/-- Counts of a link. -/
def LinkCounts.crc (c : LinkCounts) : Origin → LinkCounts
  | .chassis => { c with chCrc := satCount (c.chCrc + 1) }
  | .dock => { c with coCrc := satCount (c.coCrc + 1) }

def LinkCounts.header (c : LinkCounts) : Origin → LinkCounts
  | .chassis => { c with chHeader := satCount (c.chHeader + 1) }
  | .dock => { c with coHeader := satCount (c.coHeader + 1) }

def LinkCounts.early (c : LinkCounts) : Origin → LinkCounts
  | .chassis => { c with chEarly := satCount (c.chEarly + 1) }
  | .dock => { c with coEarly := satCount (c.coEarly + 1) }

def LinkCounts.slotFull (c : LinkCounts) : Origin → LinkCounts
  | .chassis => { c with chSlotFull := satCount (c.chSlotFull + 1) }
  | .dock => { c with coSlotFull := satCount (c.coSlotFull + 1) }

def LinkCounts.gap (c : LinkCounts) : LinkCounts := { c with chGap := satCount (c.chGap + 1) }
def LinkCounts.framing (c : LinkCounts) : LinkCounts := { c with chFraming := satCount (c.chFraming + 1) }

/-- The parser of a link. -/
def Frame.parser (f : Frame) : Origin → Parser
  | .chassis => f.chPar
  | .dock => f.coPar

/-- The parser of a link replaced. -/
def State.withParser (s : State) (o : Origin) (p : Parser) : State :=
  match o with
  | .chassis => s.withFrame { s.frame with chPar := p }
  | .dock => s.withFrame { s.frame with coPar := p }

/-- The request slot of a link. -/
def Frame.slot (f : Frame) : Origin → Option Request
  | .chassis => f.chSlot
  | .dock => f.coSlot

/-- A frame taken into its link's slot with its completion order. -/
def State.fillSlot (s : State) (o : Origin) (r : Request) : State :=
  let f : Frame := { s.frame with nextOrder := s.frame.nextOrder + 1 }
  match o with
  | .chassis => s.withFrame { f with chSlot := some { r with order := s.frame.nextOrder } }
  | .dock => s.withFrame { f with coSlot := some { r with order := s.frame.nextOrder } }

/-- What the taking of a frame tells the other blocks: a chassis frame restarts the idle timer and wakes the part, a
contact frame restarts the silence time (10 R169, 11 R185). -/
def State.frameTaken (s : State) (o : Origin) : State :=
  match o with
  | .chassis => s.wake.restartIdle.settled
  | .dock => s.dockFrameTaken.settled

/-- A complete frame: dropped and counted, or taken (10 R169). -/
def State.frameComplete (s : State) (o : Origin) (bytes : List Byte) (crc : List Byte) (period : Nat) : State :=
  if crcBytes (BitVec.ofNat 8 bytes.length :: bytes) ≠ crc then s.withCounts (fun c => c.crc o)
  else if isHeld s.frame.startup then s.withCounts (fun c => c.early o)
  else if isHeld (s.frame.slot o) then s.withCounts (fun c => c.slotFull o)
  else
    (s.fillSlot o { kind := bytes.headD 0, body := bytes.drop 1, order := 0, period := period }).frameTaken o

/-- Start byte of a frame (12 section 12.1). -/
def startByte : Byte := 0x5C#8

/-- A byte taken in HUNT; on the chassis link a start byte wakes the part from SLEEP (10 R168, 11 R185). -/
def State.huntByte (s : State) (o : Origin) (b : Byte) : State :=
  if b = startByte then
    let s1 := s.withParser o { Parser.hunting with state := .length }
    if o = .chassis ∧ s.power.state = .sleep then s1.wake.settled else s1
  else s

/-- A byte taken by a link's parser (10 R168). -/
def State.parseByte (s : State) (o : Origin) (b : Byte) (period : Nat) : State :=
  let p := s.frame.parser o
  match p.state with
  | .hunt => s.huntByte o b
  | .length =>
    if 1 ≤ b.toNat ∧ b.toNat ≤ 64 then s.withParser o { p with state := .body, len := b.toNat, bytes := [] }
    else ((s.withParser o Parser.hunting).withCounts (fun c => c.header o)).huntByte o b
  | .body =>
    s.withParser o { p with
      bytes := p.bytes ++ [b], state := if p.len ≤ p.bytes.length + 1 then .crc1 else .body }
  | .crc1 => s.withParser o { p with state := .crc2, crcHigh := b }
  | .crc2 => (s.withParser o Parser.hunting).frameComplete o p.bytes [p.crcHigh, b] period

/-- A frame is in progress on a link. -/
def State.inFrame (s : State) (o : Origin) : Bool := decide ((s.frame.parser o).state ≠ .hunt)

/-- The gap timer restarts at the end of each chassis character. -/
def State.gapRestart (s : State) : State := s.withFrame { s.frame with gapTime := 0 }

/-- A chassis character (10 R168); the receiver runs in AWAKE and SLEEP. -/
def State.chassisCharacter (s : State) (b : Byte) (good : Bool) : State :=
  if s.live then
    if good then s.gapRestart.parseByte .chassis b 0
    else (s.gapRestart.withParser .chassis Parser.hunting).withCounts LinkCounts.framing
  else s

/-- More than 100 us pass within a frame (10 R168; log 23). -/
def State.gap (s : State) : State :=
  if s.live && s.inFrame .chassis && decide (ticksOfUs 100 < s.frame.gapTime) then
    (s.withParser .chassis Parser.hunting).withCounts LinkCounts.gap
  else s

/-! ### The contact FIFO's entries (07 R134) -/

/-- A mark discards a contact frame in progress; a break mark counts a gap. -/
def State.contactMark (s : State) (brk : Bool) : State :=
  if s.inFrame .dock then
    let s1 := s.withParser .dock Parser.hunting
    if brk then s1.withModem { s1.modem with rxGap := satCount (s1.modem.rxGap + 1) } else s1
  else s

/-- An entry acts on the contact parser. -/
def State.contactEntry (s : State) (e : FifoEntry) : State :=
  match e with
  | .byte b period => s.parseByte .dock b period
  | .brk => s.contactMark true
  | .parity => s.contactMark false
  | .stop => s.contactMark false
  | .overrun => s.contactMark false

/-- The frame unit serves no request: no answer waits for its buffer (10 R170). -/
def State.serviceIdle (s : State) : Bool := decide (s.frame.waiting = none)

/-- The head of the FIFO taken by the parser, while no request is being served (07 R134). -/
def State.entryTaken (s : State) : State :=
  if s.awake && s.serviceIdle then
    match s.modem.fifo with
    | e :: _ => (s.withModem s.modem.pop).contactEntry e
    | [] => s
  else s

/-! ### Start-up window and telemetry (10 R181, R182) -/

/-- The start-up window ends. -/
def State.startUpEnd (s : State) : State :=
  if s.frame.startup = some 0 then s.withFrame { s.frame with startup := none } else s

/-- A flag byte: bit i is the i-th flag. -/
def flags (fs : List Bool) : Nat := bitmap fs

/-- MOTOR values (12 section 12.6). -/
def State.motorGroup (s : State) : List Byte :=
  natField 1 (motorCode s.drive.motor) ++ natField 4 s.drive.sM ++ natField 4 s.drive.sT ++ natField 2 s.drive.duty ++
  natField 2 s.drive.lM ++ natField 1 s.drive.attempts ++
  natField 1 (flags [isHeld s.drive.hold, s.plan.permit, s.plan.runReq, s.plan.exhausted, s.cond .blockage]) ++
  natField 1 (modeCode s.plan.mode) ++ natField 4 s.plan.sReq ++ natField 1 s.plan.band

/-- A charge in mA ms as whole mAh. -/
def mAh (q : Int) : Nat := (floorDiv q 3600000).toNat

/-- T and I_scan of the latest completed scan, 0 before the first (05 R107). -/
def State.latestTemp (s : State) : Int :=
  match s.acq.lastSet with
  | some x => x.temp
  | none => 0

/-- PACK values (12 section 12.6): figures as the latest scan completion left them, flags and the probe state as they
stand (05 R107, 10 R181; log 42). -/
def State.packGroup (s : State) : List Byte :=
  s.pack.v.flatMap (natField 2) ++ s.pack.e.flatMap (intField 2) ++
  s.pack.report.r.flatMap (fun r => natField 2 r.toNat) ++ intField 2 s.latestScanCurrent ++ intField 2 s.latestTemp ++
  natField 2 s.pack.lCell ++ natField 2 s.pack.lTemp ++ natField 2 s.pack.budget ++
  natField 2 (mAh (s.pack.report.q.getD 0)) ++ natField 2 (mAh s.pack.report.qFull) ++ natField 1 s.pack.report.soc ++
  natField 1 (probeStateCode s.pack.probe + flagBit s.pack.reserve 3 + flagBit (s.cond .packEmpty) 4 +
    flagBit (s.cond .budgetExhausted) 5)

/-- DIRT values (12 section 12.6). -/
def State.dirtGroup (s : State) : List Byte :=
  s.dirt.lastWin.bins.flatMap (natField 2) ++ natField 2 s.dirt.lastWin.rejected ++ natField 2 s.dirt.lastWin.cont ++
  natField 2 s.dirt.lastWin.optTerm ++ natField 4 s.dirt.lastWin.score ++ natField 1 s.dirt.level ++
  natField 1 s.dirt.lastWin.fallHold ++ natField 1 (flags [s.dirt.lastWin.blanked, s.blanking])

/-- A record's figure, 0 for none. -/
def figureOf {α : Type} (x : Option α) (f : α → Nat) : Nat :=
  match x with
  | some a => f a
  | none => 0

/-- CHARGE values (12 section 12.6). The phase time is floored to whole seconds, where 06 R128 names no rounding: log 46,
the model's choice. -/
def State.chargeGroup (s : State) : List Byte :=
  natField 1 (pathCode s.charge.path) ++ natField 1 (presenceCode s.charge.presence) ++
  natField 1 (flags [isHeld s.charge.dock, isHeld s.charge.report]) ++
  natField 2 (figureOf s.charge.dock (·.maxCurrent)) ++ natField 2 (figureOf s.charge.dock (·.maxVoltage)) ++
  natField 1 (figureOf s.charge.dock (·.revision)) ++
  natField 2 (figureOf s.charge.report (·.1)) ++ natField 2 (figureOf s.charge.report (·.2)) ++
  natField 1 (stageCode s.charge.session) ++ natField 1 (phaseCode s.charge.session) ++
  natField 2 (s.charge.phaseTime / ticksOfS 1) ++ natField 2 s.charge.cap ++ natField 2 s.charge.demand ++
  natField 1 (bitmap s.charge.bleed)

/-- The groups of a mask, in their order (10 R181). -/
def groupsOf (mask : Nat) : List Nat := [1, 2, 4, 8].filter fun g => mask / g % 2 = 1

/-- Values of a group. -/
def State.groupValues (s : State) (g : Nat) : List Byte :=
  match g with
  | 1 => s.motorGroup
  | 2 => s.packGroup
  | 4 => s.dirtGroup
  | _ => s.chargeGroup

/-- Telemetry frame of a group with a sequence (12 section 12.6, R192). -/
def State.telemetryFrame (s : State) (g seq : Nat) : TxFrame where
  bytes := frameBytes 0xE0#8
    (natField 1 g ++ natField 1 seq ++ natBytes 3 (s.clockMs % 16777216) ++ s.groupValues g)
  tag := .plain

/-- The frames of an emission; the sequence rises for each (10 R181; log 18). -/
def State.emission (s : State) : List TxFrame :=
  (groupsOf (s.systemField 0)).zipIdx.map fun g => s.telemetryFrame g.1 ((s.frame.telSeq + g.2 + 1) % 256)

/-- The telemetry timer expires: frames still waiting are dropped and counted, and an emission is made (10 R181). -/
def State.telemetry (s : State) : State :=
  if s.awake && decide (s.frame.telTimer = some 0) then
    s.withFrame ({ s.frame with
      counts := { s.frame.counts with skipped := satCount (s.frame.counts.skipped + s.frame.telem.length) },
      telem := s.emission,
      telSeq := (s.frame.telSeq + s.emission.length) % 256,
      telTimer := some (ticksOfMs (s.systemField 1)) }).pump
  else s

/-! ### Meanings -/

/-- CHASSIS_CHARACTER (10 R168). -/
def execChassisCharacter (b : Byte) (good : Bool) (s : State) : Host.Outcome State Fault Refusal :=
  .next (s.chassisCharacter b good)

/-- GAP (10 R168). -/
def execGap (s : State) : Host.Outcome State Fault Refusal := .next s.gap

/-- CHASSIS_FRAME_SENT (10 R170). -/
def execChassisFrameSent (s : State) : Host.Outcome State Fault Refusal := .next s.frameSent

/-- START_UP_WINDOW (10 R182). -/
def execStartUpWindow (s : State) : Host.Outcome State Fault Refusal := .next s.startUpEnd

/-- TELEMETRY_EMISSION (10 R181). -/
def execTelemetryEmission (s : State) : Host.Outcome State Fault Refusal := .next s.telemetry

/-- CONTACT_ENTRY_TAKEN (07 R134). -/
def execContactEntryTaken (s : State) : Host.Outcome State Fault Refusal := .next s.entryTaken

end Sys2Proof.Machine
end

