-- ==== Sys2Proof/Machine/TableChecks.lean ====
section
/-! DEFINITION. The checks that TABLE ACTIVATE makes of a staging image, table by table, and what an activation brings
about (01 R10, R12; 02 R22, R23; 03 R61; 04 R74, R77; 05 R86; 06 R118, R119; 08 R146; 10 R176, R177, R180). -/

namespace Sys2Proof.Machine

/-- A value lies in a range, ends included. -/
def inRange (lo x hi : Int) : Bool := decide (lo ≤ x) && decide (x ≤ hi)

/-- The first of `n` indices at which a test fails. -/
def firstBad (n : Nat) (good : Nat → Bool) : Option Nat := (List.range n).find? fun i => !good i

/-! ### CHANNELS and SCAN (01 R10, R12) -/

/-- None or one of the six channel cause kinds. -/
def channelCause (c : Int) : Bool := c = 0 || c = 1 || c = 4 || c = 6 || c = 8 || c = 9 || c = 14

/-- A CHANNELS entry passes. -/
def channelGood (img : Image) (i : Nat) : Bool :=
  inRange 0 (field img i 0) 4095 && decide (field img i 3 ≤ field img i 4) && inRange 1 (field img i 7) 15 &&
  channelCause (field img i 5) && channelCause (field img i 6)

def checkChannels (img : Image) : Option Nat := firstBad 16 (channelGood img)

/-- The channels that a scan list must name (01 R12). -/
def requiredChannels : List Nat := [4, 5, 6, 7, 8, 9, 10, 11, 12, 13]

/-- Slot `i + 1` of a list names a slow channel. -/
def slotGood (img : Image) (i : Nat) : Bool := inRange 3 (field img (i + 1) 0) 15

def checkScan (img : Image) : Option Nat :=
  if !inRange 1 (field img 0 0) 16 then some 0
  else
    match firstBad (fieldNat img 0 0) (slotGood img) with
    | some i => some (i + 1)
    | none => requiredChannels.find? fun ch => !(scanChannels img).contains ch

/-! ### DRIVE (02 R22) -/

/-- Range of a DRIVE field, with the bounds that other staging fields give. -/
def driveRange (img : Image) (i : Nat) : Int × Int :=
  match i with
  | 0 => (500, 12000) | 1 => (50, 1000) | 2 => (200, 20000) | 3 => (1, 1000)
  | 4 => (100, field img 2 0 - 1)
  | 5 => (1, 1000) | 6 => (0, 3) | 7 => (20, 2000) | 8 => (0, 65535) | 9 => (0, 65535) | 10 => (0, 4094)
  | 11 => (field img 10 0 + 1, 4095)
  | 12 => (1, 512) | 13 => (0, 10000) | 14 => (0, 10000)
  | 15 => (handoverSpeedOf (fieldNat img 4 0), 130000)
  | _ => (1000, 45000)

/-- A record field lies in its range. -/
def fieldFits (img : Image) (range : Nat → Int × Int) (i : Nat) : Bool :=
  inRange (range i).1 (field img i 0) (range i).2

def checkDrive (img : Image) : Option Nat := firstBad 17 (fieldFits img (driveRange img))

/-! ### SUCTION and BAND (04 R74, R77) -/

def suctionGood (img : Image) (i : Nat) : Bool := inRange 0 (field img i 0) 130000 && inRange 0 (field img i 1) 130000

def checkSuction (img : Image) : Option Nat := firstBad 12 (suctionGood img)

def bandGood (img : Image) (i : Nat) : Bool :=
  inRange 1000 (field img i 0) 200000 && inRange 1 (field img i 1) 4095 && inRange 0 (field img i 2) 4094 &&
  inRange 0 (field img i 3) 2000 && inRange 50 (field img i 4) 10000 &&
  decide (field img i 2 < field img i 1) &&
  (decide (i = 0) || decide (field img (i - 1) 0 < field img i 0)) &&
  (decide (i ≠ 7) || decide (130000 ≤ field img i 0))

def checkBand (img : Image) : Option Nat := firstBad 8 (bandGood img)

/-! ### DIRT (03 R61) -/

/-- A bin's peak bound at index i ≡ 2 (mod 3), duration bound at i ≡ 0, weight at i ≡ 1, from index 11 on. -/
def dirtRange (i : Nat) : Int × Int :=
  if i = 0 then (2, 80)
  else if i = 1 then (50, 1000)
  else if i = 2 then (0, 4095)
  else if i = 3 then (0, 1024)
  else if i ≤ 9 then (0, 65535)
  else if i = 10 then (1, 15)
  else if i % 3 = 2 then (0, 4096)
  else if i % 3 = 0 then (1, 800)
  else (0, 255)

/-- The order of a DIRT field with fields of lower index. -/
def dirtOrder (img : Image) (i : Nat) : Bool :=
  let f := fun j => field img j 0
  if i = 1 then decide (f 1 % 10 = 0)
  else if i = 5 ∨ i = 6 then decide (f (i - 1) < f i)
  else if i = 7 then decide (f 7 < f 4)
  else if i = 8 ∨ i = 9 then decide (f i < f (i - 3)) && decide (f (i - 1) < f i)
  else if 14 ≤ i ∧ i % 3 ≠ 1 then decide (f (i - 3) ≤ f i)
  else true

def checkDirt (img : Image) : Option Nat :=
  firstBad 29 fun i => fieldFits img dirtRange i && dirtOrder img i

/-! ### PACK (05 R86) -/

/-- Range of a PACK field, with the bounds that other staging fields give. -/
def packRange (img : Image) (i : Nat) : Int × Int :=
  match i with
  | 0 => (2500, 3600) | 1 => (2000, 3600) | 2 => (2000, 3600)
  | 3 => (field img 4 0, field img 5 0)
  | 4 => (20, 1499)
  | 5 => (field img 4 0 + 1, 1500)
  | 6 => (1000, 45000)
  | 7 => (0, field img 6 0 - 1000)
  | 8 => (1, 45000) | 9 => (0, 50) | 10 => (500, 20000) | 11 => (1, 6)
  | _ =>
    if i < 24 then (if i % 2 = 0 then (-400, 1000) else (0, 45000))
    else if i % 2 = 0 then (2500, 4500) else (0, 100)

/-- A temperature row beyond the row count is not checked. -/
def packUnchecked (img : Image) (i : Nat) : Bool :=
  decide (12 ≤ i ∧ i < 24) && decide (field img 11 0 ≤ ((i - 12) / 2 : Nat))

/-- The order of a PACK row with the row before it, and the ends of the OCV points. -/
def packOrder (img : Image) (i : Nat) : Bool :=
  let above := decide (field img (i - 2) 0 < field img i 0)
  if 14 ≤ i ∧ i < 24 ∧ i % 2 = 0 then above
  else if i = 25 then decide (field img 25 0 = 0)
  else if i = 35 then above && decide (field img 35 0 = 100)
  else if 26 ≤ i then above
  else true

def checkPack (img : Image) : Option Nat :=
  firstBad 36 fun i => packUnchecked img i || (fieldFits img (packRange img) i && packOrder img i)

/-! ### CHARGE (06 R118) -/

def settingsGood (img : Image) : Bool :=
  inRange 1 (field img 0 0) 8 && inRange (-400) (field img 0 1) 1000 && inRange (-400) (field img 0 2) 1000 &&
  inRange (-400) (field img 0 3) 1000 && inRange 2 (field img 0 4) 500 &&
  decide (field img 0 1 < field img 0 3) && inRange (field img 0 1) (field img 0 2) (field img 0 3)

/-- The exit value fits its exit test. -/
def exitValueGood (test value : Int) : Bool :=
  if test = 0 then true
  else if inRange 1 test 3 then inRange 0 value 5000
  else if test = 4 then inRange 1 value 4000
  else inRange 1 value 65535

/-- A phase entry passes against the phase count; bits 2..7 of the flags byte name nothing (log 19). -/
def phaseGood (img : Image) (i : Nat) : Bool :=
  let count := field img 0 0
  inRange 0 (field img i 0) 4000 && inRange 3000 (field img i 1) 4500 && inRange 0 (field img i 3) 5 &&
  exitValueGood (field img i 3) (field img i 4) && inRange 0 (field img i 5) 65535 &&
  decide (field img i 6 < count) && (decide (field img i 7 = 255) || decide (field img i 7 < count))

def checkCharge (img : Image) : Option Nat :=
  firstBad 9 fun i =>
    if i = 0 then settingsGood img else decide (field img 0 0 < (i : Int)) || phaseGood img i

/-! ### ACTIONS and SYSTEM (08 R146, 10 R180) -/

def actionGood (img : Image) (i : Nat) : Bool :=
  inRange 0 (field img i 0) 3 && inRange 0 (field img i 1) 45000 && inRange 0 (field img i 2) 3 &&
  inRange 0 (field img i 3) 1

def checkActions (img : Image) : Option Nat := firstBad 16 (actionGood img)

def systemGood (img : Image) (i : Nat) : Bool :=
  let x := field img i 0
  match i with
  | 0 => inRange 0 x 15
  | 1 => true
  | 2 => decide (x = 0) || inRange 10 x 200
  | 3 => inRange 50 x 5000 && decide (field img 2 0 < x)
  | 5 => decide (x = 0) || inRange 30 x 3600
  | _ => inRange 0 x 1

def checkSystem (img : Image) : Option Nat := firstBad 7 (systemGood img)

/-- The period clamped to 20..2000 and floored to a multiple of 10 (10 R180). -/
def clampPeriod (img : Image) : Image := img.set 1 [clampInt 20 2000 (field img 1 0) / 10 * 10]

/-- The check of each table: the first failing index, none where the image passes (10 R176). -/
def checkTable (t : TableId) (img : Image) : Option Nat :=
  match t with
  | .channels => checkChannels img | .scan => checkScan img | .drive => checkDrive img
  | .suction => checkSuction img | .band => checkBand img | .dirt => checkDirt img
  | .pack => checkPack img | .charge => checkCharge img | .actions => checkActions img
  | .system => checkSystem img

/-! ### Activation (10 R176, R177) -/

/-- Whether a valid activation waits for its effect point (10 R177, 02 R23, 06 R119). -/
def State.defers (s : State) (t : TableId) : Bool :=
  match t with
  | .channels => true | .scan => true | .dirt => true | .pack => true
  | .suction => false | .band => false | .actions => false | .system => false
  | .drive => coasting s.drive.motor || decide (s.drive.motor = .probe)
  | .charge => isHeld s.charge.session

/-- The image taken up from a staging image: ACTIONS raised to the floors, SYSTEM with its period clamped. -/
def takenImage (t : TableId) (img : Image) : Image :=
  match t with
  | .actions => raiseToFloors img
  | .system => clampPeriod img
  | .channels => img | .scan => img | .drive => img | .suction => img | .band => img | .dirt => img
  | .pack => img | .charge => img

/-- Some present condition's action becomes TRIP against an older state's actions (08 R146). -/
def State.newTrip (s old : State) : Bool :=
  conditionKinds.any fun k => s.cond k && decide (s.actionOf k = 3) && decide (old.actionOf k ≠ 3)

/-- The idle timer has reached the timeout in use (11 R184). -/
def State.idleReached (s : State) : Bool :=
  match s.power.idleTimer with
  | some t => decide (s.systemField 5 ≠ 0) && decide (ticksOfS (s.systemField 5) ≤ t)
  | none => false

/-- The SYSTEM changeover: telemetry and an active keep-alive window restart, and a timeout already reached enters SLEEP
(10 R180, 08 R155, 11 R184). -/
def State.systemChangeover (s : State) : State :=
  let s1 := s.startTelemetry
  let s2 :=
    if s1.keepActive ∧ s1.frame.keep ≠ .idle then s1.withFrame { s1.frame with keep := .running true 0 } else s1
  if s2.idleReached then s2.enterSleep else s2

/-- What the taking-up of an image at once brings about; `old` is the state before it. A changeover to TRIP (08 R146,
R149) sets the latch and records no occurrence: log 48, the model's reading. -/
def State.changeover (s old : State) (t : TableId) : State :=
  match t with
  | .drive => s.driveChangeover
  | .band => s.loadBand
  | .actions => if s.newTrip old then s.setTrip else s
  | .system => s.systemChangeover
  | .suction => s
  | .charge => s
  | .channels => s
  | .scan => s
  | .dirt => s
  | .pack => s

/-- A staging image that passed its check is activated at once or left pending; its owner is released (10 R176). -/
def State.activate (s : State) (t : TableId) : State :=
  let x := s.tables.get t
  if s.defers t then s.putTable t { x with owner := none, waiting := some x.staging }
  else
    (((s.putTable t { x with owner := none, active := takenImage t x.staging }).changeover s t).settled)

end Sys2Proof.Machine
end

