-- ==== Sys2Proof/Machine/Requests.lean ====
section
/-! DEFINITION. Service of the requests (10 R170 to R173, R175 to R179; 04 R69, R70; 05 R102; 07 R138, R139; 08 R150,
R153, R156; 09 R164 to R166; 11 R183, R186, R188), with the answers' layouts (12). -/

namespace Sys2Proof.Machine

/-! ### Service (10 R170, R171) -/

/-- What a request's service gives: the state after it, the answer's status and data, and what its end brings about. -/
structure Reply where
  state : State
  status : Status
  data : List Byte
  tag : FrameTag

/-- A reply without data. -/
def State.reply (s : State) (st : Status) : Reply := { state := s, status := st, data := [], tag := .plain }

/-- A reply OK with data. -/
def State.replyData (s : State) (data : List Byte) : Reply := { state := s, status := .ok, data := data, tag := .plain }

/-- The request whose frame completed first. -/
def State.nextRequest (s : State) : Option (Origin × Request) :=
  match s.frame.chSlot, s.frame.coSlot with
  | some a, some b => if a.order ≤ b.order then some (.chassis, a) else some (.dock, b)
  | some a, none => some (.chassis, a)
  | none, some b => some (.dock, b)
  | none, none => none

/-- The frame unit serves requests: in AWAKE, one at a time, and none after an accepted SHIP or RESET (10 R170, 11 R183,
R186, R188). -/
def State.serving (s : State) : Bool :=
  s.awake && s.serviceIdle && !s.power.shipPending && !s.power.resetPending

/-- The request kinds (10 R171). -/
def requestKinds : List Nat :=
  [0x01, 0x02, 0x10, 0x11, 0x12, 0x13, 0x20, 0x21, 0x22, 0x30, 0x31, 0x32, 0x40, 0x41, 0x50, 0x60, 0x61, 0x62,
   0x70, 0x71]

/-- The kinds of table requests. -/
def tableKinds : List Nat := [0x10, 0x11, 0x12, 0x13]

/-- The kinds that an origin may send (10 R171). -/
def permitted (o : Origin) (kind : Nat) : Bool :=
  match o with
  | .chassis => decide (kind ≠ 0x70 ∧ kind ≠ 0x71)
  | .dock => [0x01, 0x02, 0x10, 0x11, 0x12, 0x13, 0x40, 0x41, 0x62, 0x70, 0x71].contains kind

/-- A body length that fits a kind (10 R171). -/
def lengthFits (kind n : Nat) : Bool :=
  if kind = 0x01 then decide (n ≤ 62)
  else if kind = 0x10 then decide (3 ≤ n)
  else if kind = 0x11 ∨ kind = 0x71 then decide (n = 4)
  else if kind = 0x40 ∨ kind = 0x70 then decide (n = 5)
  else if [0x12, 0x13, 0x20, 0x21, 0x32].contains kind then decide (n = 1)
  else decide (n = 0)

/-- The status that refuses a request before it reaches its block, in the order of 10 R171. -/
def refusal? (o : Origin) (r : Request) : Option Status :=
  let kind := r.kind.toNat
  if !requestKinds.contains kind then some .unknown
  else if !permitted o kind then some .notPermitted
  else if !lengthFits kind r.body.length then some .badLength
  else if o = .dock ∧ tableKinds.contains kind ∧ (r.body.headD 0).toNat ≠ 7 then some .notPermitted
  else none

/-- The answer handed to the link of the request (10 R170). -/
def Reply.handTo (p : Reply) (o : Origin) (r : Request) : State :=
  let bytes := answerBytes r.kind p.status p.data
  match o with
  | .chassis => p.state.withFrame (p.state.frame.give { bytes := bytes, tag := p.tag })
  | .dock =>
    (p.state.withFrame { p.state.frame with coSlot := none }).handDock
      { bytes := bytes, period := r.period, tag := p.tag }

/-- One request served by its block, when it is the next and of the step's kind (log 3). -/
def State.serve (s : State) (kind : Nat) (block : State → Origin → List Byte → Reply) : State :=
  match s.nextRequest with
  | some (o, r) =>
    if s.serving && decide (r.kind.toNat = kind) then
      match refusal? o r with
      | some st => (s.reply st).handTo o r
      | none => (block s o r.body).handTo o r
    else s
  | none => s

/-- Byte `i` of a body as a number. -/
def bodyAt (body : List Byte) (i : Nat) : Nat := (body.getD i 0).toNat

/-- The 2-byte number at index `i` of a body. -/
def bodyWord (body : List Byte) (i : Nat) : Nat := bytesNat ((body.drop i).take 2)

/-! ### PING and STATUS (10 R172) -/

/-- PING echoes its body. -/
def State.servePing (s : State) (_ : Origin) (body : List Byte) : Reply := s.replyData body

/-- Flagged cells and code of the last probe result; FFh for none. -/
def lastProbeBytes (p : Option ProbeOutcome) : List Byte :=
  match p with
  | some x => natBytes 1 (probeCode x.result) ++ natBytes 1 (bitmap x.flagged)
  | none => natBytes 1 255 ++ natBytes 1 0

/-- Code of the open session's kind. -/
def sessionCode (a : Option Session) : Nat :=
  match a with
  | none => 0
  | some x => if x.kind = .clean then 1 else 2

/-- Code of a staging owner. -/
def ownerCode : Option Origin → Nat
  | none => 0
  | some .chassis => 1
  | some .dock => 2

/-- Kind bitmap of the records that a test picks. -/
def recordBits (rs : List CauseRecord) (pick : CauseRecord → Bool) : List Byte :=
  natBytes 4 (kindBitmap ((rs.filter pick).map (·.kind)))

/-- The STATUS flags (12 section 12.4). -/
def State.statusFlags (s : State) : Nat :=
  flags [decide (s.power.settle = none), s.plan.permit, s.plan.runReq, s.plan.exhausted, s.cond .blockage,
    s.pack.reserve, s.cause.trip, s.holdNow]

/-- STATUS data, 47 bytes (12 section 12.4). -/
def State.statusBytes (s : State) : List Byte :=
  natBytes 1 (if s.power.state = .sleep then 1 else 0) ++ natBytes 1 s.statusFlags ++ natBytes 4 s.clockMs ++
  natBytes 1 (motorCode s.drive.motor) ++ natBytes 1 (modeCode s.plan.mode) ++ natBytes 4 s.plan.sReq ++
  natBytes 1 s.plan.band ++ natBytes 1 s.pack.soc ++ natBytes 2 s.pack.budget ++
  natBytes 1 (probeStateCode s.pack.probe) ++ lastProbeBytes s.pack.lastProbe ++
  natBytes 1 (pathCode s.charge.path) ++ natBytes 1 (presenceCode s.charge.presence) ++
  natBytes 1 (phaseCode s.charge.session) ++
  recordBits s.cause.records (fun _ => true) ++ recordBits s.cause.records (fun r => s.cond r.kind) ++
  recordBits s.cause.records (·.reported) ++
  natBytes 1 s.log.ring.length ++ natBytes 2 (figureOf s.log.ring.head? (·.seq)) ++
  natBytes 2 (figureOf s.log.ring.getLast? (·.seq)) ++ natBytes 2 s.log.nextSeq ++
  natBytes 1 (sessionCode s.log.session) ++
  natBytes 2 (bitmap (allTables.map s.isPending)) ++
  natBytes 3 (allTables.foldl (fun a t => a + ownerCode (s.tables.get t).owner * 4 ^ tableNum t) 0)

/-- STATUS. -/
def State.serveStatus (s : State) (_ : Origin) (_ : List Byte) : Reply := s.replyData s.statusBytes

/-! ### The table store (10 R175 to R179) -/

/-- The staging image is held against an origin: by a pending image or by the other origin. -/
def State.tableBusy (s : State) (t : TableId) (o : Origin) : Bool :=
  s.isPending t || (isHeld (s.tables.get t).owner && decide ((s.tables.get t).owner ≠ some o))

/-- Entries written into staging; the origin becomes the owner (10 R175). -/
def State.writeStaging (s : State) (t : TableId) (o : Origin) (first count : Nat) (bytes : List Byte) : State :=
  let x := s.tables.get t
  s.putTable t { x with staging := writeEntries x.staging first (decodeEntries t first count bytes), owner := some o }

/-- TABLE WRITE (10 R175). -/
def State.serveTableWrite (s : State) (o : Origin) (body : List Byte) : Reply :=
  let first := bodyAt body 1
  let bytes := body.drop 2
  match tableOfNum? (bodyAt body 0) with
  | none => s.reply .badIndex
  | some t =>
    let count := bytes.length / entrySize t
    if bytes.length % entrySize t ≠ 0 then s.reply .badLength
    else if tableEntries t < first + count then s.reply .badIndex
    else if s.tableBusy t o then s.reply .busy
    else (s.writeStaging t o first count bytes).reply .ok

/-- TABLE READ (10 R179). -/
def State.serveTableRead (s : State) (_ : Origin) (body : List Byte) : Reply :=
  let bank := bodyAt body 1
  let first := bodyAt body 2
  let count := bodyAt body 3
  match tableOfNum? (bodyAt body 0) with
  | none => s.reply .badIndex
  | some t =>
    if 1 < bank ∨ count = 0 ∨ tableEntries t < first + count then s.reply .badIndex
    else if 59 < count * entrySize t then s.reply .badLength
    else
      let img := if bank = 0 then (s.tables.get t).active else (s.tables.get t).staging
      s.replyData (body.take 3 ++ encodeEntries t img first count)

/-- TABLE ACTIVATE (10 R176). -/
def State.serveTableActivate (s : State) (o : Origin) (body : List Byte) : Reply :=
  match tableOfNum? (bodyAt body 0) with
  | none => s.reply .badIndex
  | some t =>
    if s.tableBusy t o then s.reply .busy
    else
      match checkTable t (s.tables.get t).staging with
      | some i => { state := s, status := .badTable, data := natBytes 1 i, tag := .plain }
      | none => (s.activate t).reply (if s.defers t then .pending else .ok)

/-- Staging restored from active, the owner released (10 R178). -/
def State.discardStaging (s : State) (t : TableId) : State :=
  s.putTable t { s.tables.get t with staging := (s.tables.get t).active, owner := none }

/-- TABLE DISCARD (10 R178). -/
def State.serveTableDiscard (s : State) (o : Origin) (body : List Byte) : Reply :=
  match tableOfNum? (bodyAt body 0) with
  | none => s.reply .badIndex
  | some t => if s.tableBusy t o then s.reply .busy else (s.discardStaging t).reply .ok

/-! ### Planner and frame unit (04 R69, R70, 08 R156, 10 R173) -/

/-- The permit replaced. -/
def State.withPermit (s : State) (b : Bool) : State := { s with plan := { s.plan with permit := b } }

/-- RUN PERMIT (04 R70). -/
def State.serveRunPermit (s : State) (_ : Origin) (body : List Byte) : Reply :=
  match bodyAt body 0 with
  | 0 => ((s.withPermit false).settled).reply .ok
  | 1 => ((s.withPermit true).settled).reply .ok
  | _ => s.reply .badIndex

/-- The mode replaced. -/
def State.withMode (s : State) (m : Mode) : State := { s with plan := { s.plan with mode := m } }

/-- MODE SET (04 R69). -/
def State.serveModeSet (s : State) (_ : Origin) (body : List Byte) : Reply :=
  match bodyAt body 0 with
  | 0 => ((s.withMode .eco).settled).reply .ok
  | 1 => ((s.withMode .auto).settled).reply .ok
  | 2 => ((s.withMode .boost).settled).reply .ok
  | _ => s.reply .badIndex

/-- A KEEPALIVE comes before the lower limit; the first one since the start of the window is not checked (08 R156). It
comes when it is served from its slot (log 40). -/
def State.keepEarly (s : State) : Bool :=
  match s.frame.keep with
  | .running first e => !first && decide (e < ticksOfMs (s.systemField 2))
  | .idle => false
  | .expired => false

/-- A KEEPALIVE at the window (08 R156). -/
def State.keepAlive (s : State) : State :=
  if s.frame.keep = .idle then s
  else
    let s1 := s.withFrame { s.frame with keep := .running false 0 }
    (if s.keepEarly then s1.raise .linkWatchdog 0 else s1.endCond .linkWatchdog).settled

/-- KEEPALIVE (08 R156). -/
def State.serveKeepalive (s : State) (_ : Origin) (_ : List Byte) : Reply := s.keepAlive.reply .ok

/-- The 18 counts in the order of R173. -/
def State.countList (s : State) : List Nat :=
  let c := s.frame.counts
  let m := s.modem
  [c.chCrc, c.chHeader, c.chGap, c.chFraming, c.chEarly, c.chSlotFull, c.coCrc, c.coHeader, c.coEarly, c.coSlotFull,
   m.rxParity, m.rxStop, m.rxGap, m.rxOverrun, m.replyMissed, c.skipped, s.pack.discards, s.log.drops]

/-- Every count 0. -/
def State.clearCounts (s : State) : State :=
  { s with
    frame := { s.frame with counts := LinkCounts.zero },
    modem := { s.modem with rxParity := 0, rxStop := 0, rxGap := 0, rxOverrun := 0, replyMissed := 0 },
    pack := { s.pack with discards := 0 },
    log := { s.log with drops := 0 } }

/-- COUNTS (10 R173). -/
def State.serveCounts (s : State) (_ : Origin) (body : List Byte) : Reply :=
  match bodyAt body 0 with
  | 0 => s.replyData (s.countList.flatMap (natBytes 2))
  | 1 => s.clearCounts.replyData (s.countList.flatMap (natBytes 2))
  | _ => s.reply .badIndex

/-! ### CAUSE and CLEAR TRIP (08 R150, R153) -/

/-- The better of two unreported records for CAUSE: the higher priority, else the lower kind number. -/
def State.betterCause (s : State) (best : Option CauseRecord) (r : CauseRecord) : Option CauseRecord :=
  match best with
  | none => some r
  | some b =>
    if s.priorityOf b.kind < s.priorityOf r.kind ∨
        (s.priorityOf b.kind = s.priorityOf r.kind ∧ kindNum r.kind < kindNum b.kind) then some r
    else best

/-- The record that CAUSE returns. -/
def State.chosenCause (s : State) : Option CauseRecord :=
  (s.cause.records.filter fun r => !r.reported).foldl s.betterCause none

/-- CAUSE data (12 section 12.4). -/
def State.causeBytes (s : State) (r : CauseRecord) : List Byte :=
  natBytes 1 (kindNum r.kind) ++ natBytes 1 (s.priorityOf r.kind) ++ natBytes 4 r.firstMs ++ natBytes 1 r.count ++
  natBytes 1 (flagBit (s.cond r.kind) 0) ++ natBytes 1 r.detail ++ natBytes 1 r.detail2

/-- The returned record is marked reported while its condition is present, and removed otherwise. -/
def State.takeCause (s : State) (r : CauseRecord) : State :=
  { s with cause := { s.cause with
      records :=
        if s.cond r.kind then
          s.cause.records.map fun x => if x.kind == r.kind then { x with reported := true } else x
        else s.cause.records.filter fun x => !(x.kind == r.kind) } }

/-- CAUSE (08 R153). -/
def State.serveCause (s : State) (_ : Origin) (_ : List Byte) : Reply :=
  match s.chosenCause with
  | some r => (s.takeCause r).replyData (s.causeBytes r)
  | none => s.reply .none

/-- CLEAR TRIP (08 R150). -/
def State.serveClearTrip (s : State) (_ : Origin) (_ : List Byte) : Reply :=
  if s.tripPresent then s.reply .state
  else (({ s with cause := { s.cause with trip := false } }).settled).reply .ok

/-! ### Session log (09 R164 to R166) -/

/-- Forward distance from a sequence number to N, on the circle of 65,535 numbers. -/
def State.distance (s : State) (seq : Nat) : Nat := (s.log.nextSeq + 65535 - seq) % 65535

/-- Place of a number in ring order, which starts 32,767 behind N. -/
def State.ringPlace (s : State) (seq : Nat) : Nat := (32767 + 65535 - s.distance seq) % 65535

/-- Not yet written. -/
def State.isAhead (s : State) (seq : Nat) : Bool :=
  decide (s.distance seq = 0) || decide (32768 ≤ s.distance seq)

/-- The record of a number that is not ahead. -/
def State.recordAt (s : State) (seq : Nat) : Option LogRecord :=
  if s.isAhead seq then none else s.log.ring.find? fun r => r.seq == seq

/-- Read window of a link. -/
def Log.window (l : Log) : Origin → Option ReadWindow
  | .chassis => l.winChassis
  | .dock => l.winDock

/-- Read window of a link replaced. -/
def State.withWindow (s : State) (o : Origin) (w : ReadWindow) : State :=
  match o with
  | .chassis => { s with log := { s.log with winChassis := some w } }
  | .dock => { s with log := { s.log with winDock := some w } }

/-- LOG WINDOW (09 R165). -/
def State.serveLogWindow (s : State) (o : Origin) (body : List Byte) : Reply :=
  let first := bodyWord body 0
  let last := bodyWord body 2
  let dir := bodyAt body 4
  if first = 0 ∨ last = 0 ∨ 1 < dir then s.reply .badIndex
  else if s.ringPlace last < s.ringPlace first then s.reply .badIndex
  else
    (s.withWindow o { first := first, last := last, backward := decide (dir = 1),
                      cursor := if dir = 1 then last else first }).reply .ok

/-- The cursor one number on, wrapping inside the window (09 R166). -/
def ReadWindow.advance (w : ReadWindow) : ReadWindow :=
  { w with cursor :=
      if w.backward then (if w.cursor = w.first then w.last else prevSeqOf w.cursor)
      else if w.cursor = w.last then w.first
      else nextSeqOf w.cursor }

/-- Code of an end reason (09 section 9.2). -/
def reasonCode : EndReason → Nat
  | .docked => 0 | .idle => 1 | .sleep => 2 | .ship => 3 | .undocked => 4 | .trip => 5 | .linkLost => 6
  | .resetLost => 7

/-- Presence mask of a record (12 section 12.5, R191). -/
def LogRecord.mask (r : LogRecord) : Nat :=
  (if isHeld r.common then 31 else 0) + (if isHeld r.charge then 96 else 0) + flagBit (isHeld r.learned) 7

/-- The common optional fields, 0 where absent. -/
def commonBytes (c : Option CommonFields) : List Byte :=
  match c with
  | some x =>
    natBytes 4 x.duration ++ natBytes 1 x.startSoc ++ natBytes 1 x.endSoc ++ intBytes 2 x.chargeDelta ++
    natBytes 4 (kindBitmap x.causes)
  | none => List.replicate 12 0

/-- The CLEAN fields, 27 bytes. -/
def cleanBytes (c : CleanFields) : List Byte :=
  natBytes 2 c.runS ++ c.bins.flatMap (natBytes 2) ++ natBytes 2 c.rejected ++ natBytes 2 c.cont ++
  natBytes 1 c.peakLevel ++ natBytes 2 c.ecoS ++ natBytes 2 c.autoS ++ natBytes 2 c.boostS ++ natBytes 2 c.starts

/-- The fields of a record's kind, 27 or 5 bytes (12 section 12.5). -/
def LogRecord.kindBytes (r : LogRecord) : List Byte :=
  match r.clean with
  | some c => cleanBytes c
  | none =>
    natBytes 1 (figureOf r.charge (·.1)) ++ natBytes 2 (figureOf r.charge (·.2)) ++ natBytes 2 (figureOf r.learned id)

/-- A record after its sequence number (12 section 12.5). -/
def LogRecord.bytes (r : LogRecord) : List Byte :=
  natBytes 1 (if r.kind = .clean then 1 else 2) ++ natBytes 1 (reasonCode r.reason) ++ natBytes 1 r.mask ++
  commonBytes r.common ++ r.kindBytes

/-- An entry of a LOG NEXT answer: type and sequence, with the record where it is held (12 section 12.5). -/
def logEntry (kind seq : Nat) (rest : List Byte) : List Byte := natBytes 1 kind ++ natBytes 2 seq ++ rest

/-- LOG NEXT (09 R166). -/
def State.serveLogNext (s : State) (o : Origin) (_ : List Byte) : Reply :=
  match s.log.window o with
  | none => s.reply .state
  | some w =>
    if s.isAhead w.cursor then s.replyData (logEntry 2 w.cursor [])
    else
      match s.recordAt w.cursor with
      | some r => (s.withWindow o w.advance).replyData (logEntry 0 w.cursor r.bytes)
      | none => (s.withWindow o w.advance).replyData (logEntry 1 w.cursor [])

/-! ### Pack monitor and power control (05 R102, 11 R183, R186, R188) -/

/-- PROBE is refused STATE (05 R102). -/
def State.probeBlocked (s : State) : Bool :=
  decide (s.drive.motor ≠ .stopped) || decide (s.charge.path ≠ .discharge) ||
  decide (s.charge.presence = .present) || s.holdNow || s.cause.trip || decide (s.acq.lastSet = none)

/-- A probe begins: PULSE 1 with "before" from the latest completed scan, the motor in PROBE on the align vector (05
R102, R103, 02 R42). -/
def State.beginProbe (s : State) : State :=
  ({ s with
    drive := { s.drive with motor := .probe, step := 1, stopCross := none },
    pack := { s.pack with figures := [], before := s.pack.prev } }).leaveStopped.beginPulse 1

/-- PROBE (05 R102). -/
def State.serveProbe (s : State) (_ : Origin) (_ : List Byte) : Reply :=
  if s.pack.probe ≠ .idle then s.reply .busy
  else if s.probeBlocked then s.reply .state
  else (s.beginProbe.settled).reply .accepted

/-- SLEEP is refused STATE (11 R183). -/
def State.sleepBlocked (s : State) : Bool :=
  decide (s.charge.path = .charge) || decide (s.charge.presence = .present) || decide (s.drive.motor ≠ .stopped)

/-- SLEEP (11 R183). -/
def State.serveSleep (s : State) (_ : Origin) (_ : List Byte) : Reply :=
  if s.sleepBlocked then s.reply .state else (s.enterSleep.settled).reply .ok

/-- SHIP is refused STATE (11 R186). -/
def State.shipBlocked (s : State) : Bool := decide (s.charge.presence = .present) || decide (s.drive.motor ≠ .stopped)

/-- SHIP: from the OK the run request is held down (11 R186). -/
def State.serveShip (s : State) (_ : Origin) (_ : List Byte) : Reply :=
  if s.shipBlocked then s.reply .state
  else
    { state := ({ s with power := { s.power with shipPending := true } }).settled, status := .ok, data := [],
      tag := .shipOk }

/-- RESET: the soft reset follows the answer (11 R188). -/
def State.serveReset (s : State) (_ : Origin) (_ : List Byte) : Reply where
  state := { s with power := { s.power with resetPending := true } }
  status := .ok
  data := []
  tag := .resetOk

/-! ### Dock (07 R138, R139) -/

/-- PART HELLO data (12 section 12.4). -/
def State.partHello (s : State) : List Byte :=
  natBytes 2 Config.partCode ++ natBytes 1 Config.partRevision ++ natBytes 1 (pathCode s.charge.path) ++
  natBytes 1 s.pack.soc ++ natBytes 1 (phaseCode s.charge.session)

/-- DOCK HELLO (07 R138). -/
def State.serveDockHello (s : State) (_ : Origin) (body : List Byte) : Reply :=
  let s1 := (s.takeHello (bodyWord body 0) (bodyWord body 2) (bodyAt body 4)).settled
  s1.replyData s1.partHello

/-- The stage is FAULTED. -/
def State.faulted (s : State) : Bool :=
  match s.charge.session with
  | some x => x.faulted
  | none => false

/-- CHARGE DEMAND data (12 section 12.4). A TRIP action is in force in the hold flag while the trip latch is set (06
R125; log 39). -/
def State.chargeDemand (s : State) : List Byte :=
  natBytes 2 s.charge.demand ++ natBytes 1 (phaseCode s.charge.session) ++
  natBytes 1 (flags [decide (s.charge.path = .charge), anyMark s.charge.bleed,
    s.holdNow || s.cause.trip || s.faulted])

/-- DOCK POLL (07 R139). -/
def State.serveDockPoll (s : State) (_ : Origin) (body : List Byte) : Reply :=
  let s1 := s.takePoll (bodyWord body 0) (bodyWord body 2)
  s1.replyData s1.chargeDemand

/-! ### Unknown kinds (10 R171) -/

/-- A request of no request kind is answered UNKNOWN. -/
def State.serveUnknown (s : State) : State :=
  match s.nextRequest with
  | some (o, r) =>
    if s.serving && !requestKinds.contains r.kind.toNat then (s.reply .unknown).handTo o r else s
  | none => s

/-! ### Meanings -/

/-- UNKNOWN_KIND (10 R171). -/
def execUnknownKind (s : State) : Host.Outcome State Fault Refusal := .next s.serveUnknown

/-- PING (10 R172). -/
def execPing (s : State) : Host.Outcome State Fault Refusal := .next (s.serve 0x01 State.servePing)

/-- STATUS (10 R172). -/
def execStatus (s : State) : Host.Outcome State Fault Refusal := .next (s.serve 0x02 State.serveStatus)

/-- TABLE_WRITE (10 R175). -/
def execTableWrite (s : State) : Host.Outcome State Fault Refusal := .next (s.serve 0x10 State.serveTableWrite)

/-- TABLE_READ (10 R179). -/
def execTableRead (s : State) : Host.Outcome State Fault Refusal := .next (s.serve 0x11 State.serveTableRead)

/-- TABLE_ACTIVATE (10 R176). -/
def execTableActivate (s : State) : Host.Outcome State Fault Refusal := .next (s.serve 0x12 State.serveTableActivate)

/-- TABLE_DISCARD (10 R178). -/
def execTableDiscard (s : State) : Host.Outcome State Fault Refusal := .next (s.serve 0x13 State.serveTableDiscard)

/-- RUN_PERMIT (04 R70). -/
def execRunPermit (s : State) : Host.Outcome State Fault Refusal := .next (s.serve 0x20 State.serveRunPermit)

/-- MODE_SET (04 R69). -/
def execModeSet (s : State) : Host.Outcome State Fault Refusal := .next (s.serve 0x21 State.serveModeSet)

/-- KEEPALIVE (08 R156). -/
def execKeepalive (s : State) : Host.Outcome State Fault Refusal := .next (s.serve 0x22 State.serveKeepalive)

/-- CAUSE (08 R153). -/
def execCause (s : State) : Host.Outcome State Fault Refusal := .next (s.serve 0x30 State.serveCause)

/-- CLEAR_TRIP (08 R150). -/
def execClearTrip (s : State) : Host.Outcome State Fault Refusal := .next (s.serve 0x31 State.serveClearTrip)

/-- COUNTS (10 R173). -/
def execCounts (s : State) : Host.Outcome State Fault Refusal := .next (s.serve 0x32 State.serveCounts)

/-- LOG_WINDOW (09 R165). -/
def execLogWindow (s : State) : Host.Outcome State Fault Refusal := .next (s.serve 0x40 State.serveLogWindow)

/-- LOG_NEXT (09 R166). -/
def execLogNext (s : State) : Host.Outcome State Fault Refusal := .next (s.serve 0x41 State.serveLogNext)

/-- PROBE (05 R102). -/
def execProbe (s : State) : Host.Outcome State Fault Refusal := .next (s.serve 0x50 State.serveProbe)

/-- SLEEP (11 R183). -/
def execSleep (s : State) : Host.Outcome State Fault Refusal := .next (s.serve 0x60 State.serveSleep)

/-- SHIP (11 R186). -/
def execShip (s : State) : Host.Outcome State Fault Refusal := .next (s.serve 0x61 State.serveShip)

/-- RESET (11 R188). -/
def execReset (s : State) : Host.Outcome State Fault Refusal := .next (s.serve 0x62 State.serveReset)

/-- DOCK_HELLO (07 R138). -/
def execDockHello (s : State) : Host.Outcome State Fault Refusal := .next (s.serve 0x70 State.serveDockHello)

/-- DOCK_POLL (07 R139). -/
def execDockPoll (s : State) : Host.Outcome State Fault Refusal := .next (s.serve 0x71 State.serveDockPoll)

end Sys2Proof.Machine
end

