-- ==== Sys2Proof/Machine/Power.lean ====
section
/-! DEFINITION. Power control's own events (11): settle, the idle timer, the reset line, the chord and power-on, with the
session's idle close (09 R161) and the keep-alive window's expiry (08 R156). -/

namespace Sys2Proof.Machine

/-- The keep-alive window has reached its upper limit without a KEEPALIVE (08 R156). -/
def State.keepOver (s : State) : Bool :=
  match s.frame.keep with
  | .running _ e => decide (ticksOfMs (s.systemField 3) ≤ e)
  | .idle => false
  | .expired => false

/-- The keep-alive window expires: EXPIRED, and LINK_WATCHDOG becomes present if absent (08 R156). -/
def State.keepExpiry (s : State) : State :=
  if s.awake && s.keepOver then ((s.withFrame { s.frame with keep := .expired }).raise .linkWatchdog 0).settled else s

/-- 600,000 ms of idle time close an open CLEAN session IDLE (09 R161). -/
def State.sessionIdle (s : State) : State :=
  if s.awake && s.log.cleanOpen && decide (ticksOfMs 600000 ≤ s.log.idleTime) then s.closeClean .idle else s

/-- The idle timer reaches the timeout: SLEEP (11 R184). -/
def State.idleExpiry (s : State) : State :=
  if s.awake && s.idleReached then s.enterSleep.settled else s

/-- Settle has run 50 ms and the first scan begun since has completed (11 R187). -/
def State.settleOver (s : State) : Bool :=
  match s.power.settle with
  | some t => decide (ticksOfMs 50 ≤ t) && s.power.settleScan
  | none => false

/-- Settle ends (11 R187), in AWAKE only; one left running at SLEEP entry waits for the wake that restarts it: log 51, the
model's choice. -/
def State.settleEnd (s : State) : State :=
  if s.awake && s.settleOver then ({ s with power := { s.power with settle := none } }).settled else s

/-- The reset line's pin. -/
def State.withLine (s : State) (high : Bool) : State :=
  { s with power := { s.power with lineHigh := high, lineBack := 0 } }

/-- A change of the reset line: a fall starts the filter unless a low is still under way, a rise ends a pin reset (11
R188). In SHIP the line is not watched. -/
def State.lineChange (s : State) (high : Bool) : State :=
  if s.power.lineHigh = high then s
  else
    let s1 := s.withLine high
    if s.power.held then (if high then s1.endPinReset.settled else s1)
    else if s.live && !high && decide (s.power.lineLow = none) then
      { s1 with power := { s1.power with lineLow := some 0 } }
    else s1

/-- A return high of 5 us ends the low (11 R188). -/
def State.lineReturn (s : State) : State :=
  if s.power.lineHigh && isHeld s.power.lineLow && decide (ticksOfUs 5 ≤ s.power.lineBack) then
    { s with power := { s.power with lineLow := none } }
  else s

/-- The low has lasted 20 us (11 R188). -/
def State.lowOver (s : State) : Bool :=
  match s.power.lineLow with
  | some t => decide (ticksOfUs 20 ≤ t)
  | none => false

/-- A low of 20 us takes a pin reset (11 R188; log 14). -/
def State.pinReset (s : State) : State :=
  if s.live && !s.power.lineHigh && s.lowOver then s.takePinReset else s

/-- The chord has been held to its limit (11 R188). -/
def State.chordOver (s : State) : Bool :=
  match s.power.chord with
  | some c => decide (ticksOfMs c.2 ≤ c.1)
  | none => false

/-- The chord timer reaches its limit: a chord reset (11 R188). -/
def State.chordReset (s : State) : State := if s.live && s.chordOver then s.takeReset .chord else s

/-- The supply rising, or a voltage on the contacts (11 R186, R188; log 15). -/
def State.powerOn (s : State) (source : PowerSource) : State :=
  match source with
  | .supply => s.takeReset .powerOn
  | .contact mv => ({ s with power := { s.power with contactMv := mv } }).leaveShipIfDocked

/-! ### Meanings -/

/-- KEEPALIVE_WINDOW_EXPIRY (08 R156). -/
def execKeepaliveWindowExpiry (s : State) : Host.Outcome State Fault Refusal := .next s.keepExpiry

/-- SESSION_IDLE_TIME (09 R161). -/
def execSessionIdleTime (s : State) : Host.Outcome State Fault Refusal := .next s.sessionIdle

/-- IDLE_TIMER (11 R184). -/
def execIdleTimer (s : State) : Host.Outcome State Fault Refusal := .next s.idleExpiry

/-- SETTLE_END (11 R187). -/
def execSettleEnd (s : State) : Host.Outcome State Fault Refusal := .next s.settleEnd

/-- RESET_LINE_CHANGE (11 R188). -/
def execResetLineChange (high : Bool) (s : State) : Host.Outcome State Fault Refusal := .next (s.lineChange high)

/-- RESET_LINE_RETURN_HIGH (11 R188). -/
def execResetLineReturnHigh (s : State) : Host.Outcome State Fault Refusal := .next s.lineReturn

/-- PIN_RESET (11 R188). -/
def execPinReset (s : State) : Host.Outcome State Fault Refusal := .next s.pinReset

/-- CHORD_RESET (11 R188). -/
def execChordReset (s : State) : Host.Outcome State Fault Refusal := .next s.chordReset

/-- POWER_ON_RESET (11 R186, R188). -/
def execPowerOnReset (source : PowerSource) (s : State) : Host.Outcome State Fault Refusal := .next (s.powerOn source)

end Sys2Proof.Machine
end

