-- ==== Sys2Proof/Machine/Dispatch.lean ====
section
/-! DEFINITION. The meaning of every command, one arm each. -/

namespace Sys2Proof.Machine

/-- A command's effect on everything but the queue. -/
def exec (i : Instr) (s : State) : Host.Outcome State Fault Refusal :=
  match i with
  | .fastFrame ibus iph pz => Sys2Proof.Machine.execFastFrame ibus iph pz s
  | .slotEnd raw => Sys2Proof.Machine.execSlotEnd raw s
  | .scanCompletion => Sys2Proof.Machine.execScanCompletion s
  | .sleepScanStart => Sys2Proof.Machine.execSleepScanStart s
  | .alignTime => Sys2Proof.Machine.execAlignTime s
  | .openStepEnd => Sys2Proof.Machine.execOpenStepEnd s
  | .captureCommutation => Sys2Proof.Machine.execCaptureCommutation s
  | .retryDwell => Sys2Proof.Machine.execRetryDwell s
  | .zeroCrossing phase dir => Sys2Proof.Machine.execZeroCrossing phase dir s
  | .scheduledCommutation => Sys2Proof.Machine.execScheduledCommutation s
  | .lostSync => Sys2Proof.Machine.execLostSync s
  | .coastStop => Sys2Proof.Machine.execCoastStop s
  | .rampStep => Sys2Proof.Machine.execRampStep s
  | .windowClose => Sys2Proof.Machine.execWindowClose s
  | .bandBlank => Sys2Proof.Machine.execBandBlank s
  | .rawInputChange control pressed => Sys2Proof.Machine.execRawInputChange control pressed s
  | .triggerPress => Sys2Proof.Machine.execTriggerPress s
  | .triggerRelease => Sys2Proof.Machine.execTriggerRelease s
  | .buttonPress => Sys2Proof.Machine.execButtonPress s
  | .buttonRelease => Sys2Proof.Machine.execButtonRelease s
  | .probeIntervalEnd => Sys2Proof.Machine.execProbeIntervalEnd s
  | .openDwell => Sys2Proof.Machine.execOpenDwell s
  | .helloWait => Sys2Proof.Machine.execHelloWait s
  | .silenceTime => Sys2Proof.Machine.execSilenceTime s
  | .dockLinkLost => Sys2Proof.Machine.execDockLinkLost s
  | .phaseTimeLimit => Sys2Proof.Machine.execPhaseTimeLimit s
  | .carrierAssert => Sys2Proof.Machine.execCarrierAssert s
  | .carrierDeassert => Sys2Proof.Machine.execCarrierDeassert s
  | .characterComplete => Sys2Proof.Machine.execCharacterComplete s
  | .breakMark => Sys2Proof.Machine.execBreakMark s
  | .contactEntryTaken => Sys2Proof.Machine.execContactEntryTaken s
  | .replyWindowExpiry => Sys2Proof.Machine.execReplyWindowExpiry s
  | .transmissionEnd => Sys2Proof.Machine.execTransmissionEnd s
  | .chassisCharacter byte stopGood => Sys2Proof.Machine.execChassisCharacter byte stopGood s
  | .gap => Sys2Proof.Machine.execGap s
  | .chassisFrameSent => Sys2Proof.Machine.execChassisFrameSent s
  | .startUpWindow => Sys2Proof.Machine.execStartUpWindow s
  | .unknownKind => Sys2Proof.Machine.execUnknownKind s
  | .ping => Sys2Proof.Machine.execPing s
  | .status => Sys2Proof.Machine.execStatus s
  | .tableWrite => Sys2Proof.Machine.execTableWrite s
  | .tableRead => Sys2Proof.Machine.execTableRead s
  | .tableActivate => Sys2Proof.Machine.execTableActivate s
  | .tableDiscard => Sys2Proof.Machine.execTableDiscard s
  | .runPermit => Sys2Proof.Machine.execRunPermit s
  | .modeSet => Sys2Proof.Machine.execModeSet s
  | .keepalive => Sys2Proof.Machine.execKeepalive s
  | .keepaliveWindowExpiry => Sys2Proof.Machine.execKeepaliveWindowExpiry s
  | .cause => Sys2Proof.Machine.execCause s
  | .clearTrip => Sys2Proof.Machine.execClearTrip s
  | .counts => Sys2Proof.Machine.execCounts s
  | .logWindow => Sys2Proof.Machine.execLogWindow s
  | .logNext => Sys2Proof.Machine.execLogNext s
  | .probe => Sys2Proof.Machine.execProbe s
  | .sleep => Sys2Proof.Machine.execSleep s
  | .ship => Sys2Proof.Machine.execShip s
  | .reset => Sys2Proof.Machine.execReset s
  | .dockHello => Sys2Proof.Machine.execDockHello s
  | .dockPoll => Sys2Proof.Machine.execDockPoll s
  | .sessionIdleTime => Sys2Proof.Machine.execSessionIdleTime s
  | .telemetryEmission => Sys2Proof.Machine.execTelemetryEmission s
  | .idleTimer => Sys2Proof.Machine.execIdleTimer s
  | .settleEnd => Sys2Proof.Machine.execSettleEnd s
  | .resetLineChange high => Sys2Proof.Machine.execResetLineChange high s
  | .pinReset => Sys2Proof.Machine.execPinReset s
  | .chordReset => Sys2Proof.Machine.execChordReset s
  | .powerOnReset source => Sys2Proof.Machine.execPowerOnReset source s
  | .receivedBitTime bit => Sys2Proof.Machine.execReceivedBitTime bit s
  | .transmitStageEnd => Sys2Proof.Machine.execTransmitStageEnd s
  | .resetLineReturnHigh => Sys2Proof.Machine.execResetLineReturnHigh s

end Sys2Proof.Machine
end

