-- ==== Sys2Proof/Safety.lean ====
section
/-! DEFINITION. What the statements about this machine speak of: that a command goes on, the part of the state that the
shared follow-up of an event leaves alone (the frame of most commands), and the invariants that every step keeps. -/

namespace Sys2Proof.Machine

/-- An outcome that goes on. -/
def goesOn (o : Host.Outcome State Fault Refusal) : Prop := ∃ t, o = .next t

/-- A command always completes. -/
def Safe (c : Instr) : Prop := ∀ s : State, goesOn (exec c s)

/-! ### The frame of an event's follow-up -/

/-- The part of the state that the cascade leaves alone; fields it may change are set to a fixed value. -/
structure Calm where
  acq : Acq
  plan : Plan
  dirt : Dirt
  pack : Pack
  charge : Charge
  modem : Modem
  frame : Frame
  tables : Tables
  windows : Option ReadWindow × Option ReadWindow × Bool
  power : Power
  pending : List Instr
  idleSpan : Nat
  freeCtr : Nat

/-- The calm part of a state. -/
def State.calm (s : State) : Calm where
  acq := s.acq
  plan := { s.plan with runReq := false, sReq := 0, band := 0, lowTime := 0, recTime := 0 }
  dirt := { s.dirt with armA := 0, relL := 0, bandBlank := none }
  pack := { s.pack with
    q := none, qFull := 0, emptyMark := false, emptyAtOpen := false, sessCharge := 0, soc := 0, reserve := false,
    probe := .idle, probeTime := 0, before := none, inside := none, figures := [], lastProbe := none,
    skipEst := false }
  charge := { s.charge with
    path := .opened, dwell := none, session := none, phaseTime := 0, below := 0, highest := 0, cap := 0, demand := 0,
    bleed := [], bleedTime := 0 }
  modem := s.modem
  frame := { s.frame with keep := .idle }
  tables := { s.tables with drive := TableSlot.builtin .drive, charge := TableSlot.builtin .charge }
  windows := (s.log.winChassis, s.log.winDock, s.log.retained)
  power := { s.power with idleTimer := none }
  pending := s.pending
  idleSpan := s.idleSpan
  freeCtr := s.freeCtr

/-! ### Requests -/

/-- A request of a kind that the frame unit takes for service now and that passes the checks of 10 R171: it is the
earliest in the slots, its origin may send it and its body fits. -/
def State.takes (s : State) (o : Origin) (r : Request) (kind : Nat) : Prop :=
  s.nextRequest = some (o, r) ∧ s.serving = true ∧ r.kind.toNat = kind ∧ refusal? o r = none

/-! ### Invariants that every step keeps -/

/-- The motor is in a driving state only with the path DISCHARGE (02 R19); with what makes it so: a run demand stands
only on such a path in AWAKE with no SHIP pending, nothing drives outside AWAKE or after an accepted SHIP, and the idle
timer runs only with the motor STOPPED (11 R184). -/
structure State.Interlocked (s : State) : Prop where
  path : driving s.drive.motor = true → s.charge.path = .discharge
  demand : s.drive.demand = true →
    s.charge.path = .discharge ∧ s.power.state = .awake ∧ s.power.shipPending = false
  still : s.power.state ≠ .awake ∨ s.power.shipPending = true → driving s.drive.motor = false
  idle : s.power.idleTimer ≠ none → s.drive.motor = .stopped

/-- The charge outputs (06 R124, R125, R127): a session is open exactly on the path CHARGE; off it the cap and the demand
are 0 and no cell bleeds; the demand never exceeds the cap; at most three cells bleed. -/
structure State.ChargeBounded (s : State) : Prop where
  session : s.charge.session ≠ none ↔ s.charge.path = .charge
  off : s.charge.path ≠ .charge →
    s.charge.cap = 0 ∧ s.charge.demand = 0 ∧ s.charge.bleed = List.replicate 7 false
  demand : s.charge.demand ≤ s.charge.cap
  bleed : s.charge.bleed.length = 7 ∧ s.charge.bleed.countP id ≤ 3

/-- The bounded buffers (07 R133, 08 R151, 09 R163): at most 32 entries in the receive FIFO and 32 records in the ring,
sequence numbers in 1..65535, at most one record of a kind in the pending set, and one flag for each condition kind. -/
structure State.BuffersBounded (s : State) : Prop where
  fifo : s.modem.fifo.length ≤ 32
  overrun : s.modem.overrun = true → s.modem.fifo.length = 32
  ring : s.log.ring.length ≤ 32
  next : 1 ≤ s.log.nextSeq ∧ s.log.nextSeq ≤ 65535
  seqs : ∀ r, r ∈ s.log.ring → 1 ≤ r.seq ∧ r.seq ≤ 65535
  kinds : (s.cause.records.map (·.kind)).Nodup
  flags : s.cause.present.length = 16

/-- The live state of the channels and cells keeps its shape: one place for each of the 16 channels and 7 cells. -/
structure State.Shaped (s : State) : Prop where
  latest : s.acq.latest.length = 16
  sat : s.acq.sat.length = 16
  counts : s.acq.lowCount.length = 16 ∧ s.acq.highCount.length = 16
  sides : s.acq.lowOn.length = 16 ∧ s.acq.highOn.length = 16
  cells : s.acq.lastGood.length = 7 ∧ s.acq.scanSat.length = 7
  vals : s.acq.scanVals.length = 16
  bins : s.dirt.bins.length = 6
  level : s.dirt.level ≤ 3

end Sys2Proof.Machine
end

