-- ==== Sys2Proof/Certificates/Slice0/Obligations.lean ====
section
/-! DEFINITION. The statements for the provers. Each says what a command, or an operation that commands share, does to
the whole state: `exec c s = .next t` with t written out is result, completion and frame at once; where the event's
follow-up `settled` comes last, the result is `X.settled` with X written out, or the fields of t that `settled` keeps
(`State.calm`: `settled_calm` in Sys2Proof/Laws/Cascade.lean). -/

section Statements

open Sys2Proof Sys2Proof.Machine

/-! ### The step -/

/-- A step takes the command at the front of the queue and runs it on the state with the queue's rest. -/
def Obligations.StepRunsFrontCommand : Prop :=
  ∀ (c : Instr) (rest : List Instr) (s : State),
    step { s with pending := c :: rest } = exec c { s with pending := rest }

/-- On an empty queue time passes. In SHIP and in a held pin reset nothing changes. Otherwise every running timer moves
on by idleSpan ticks, those of the drive unit (but for the time since a crossing of STOPPED, R25), the band blank, the
HELLO wait, the silence time, the telemetry timer,
the idle timer and the session's times in AWAKE only, the phase time while the stage is RUNNING with a cap above 0, the
bleed time while a slot is held in an open session, and the SLEEP scan timer outside AWAKE; the clock stops at its top.
No other field of any block changes. The idle step is the model's own choice (log 1). -/
def Obligations.EmptyQueueLetsTimePass : Prop :=
  ∀ s : State, s.pending = [] →
    (s.live = false → step s = .next s) ∧
    (s.live = true →
      let dt := s.idleSpan
      let up (t : Option Nat) : Option Nat := t.map (· + dt)
      let down (t : Option Nat) : Option Nat := t.map (· - dt)
      let on := s.awake
      let clean (a : Session) (m : Mode) : Bool := decide (a.kind = .clean ∧ s.plan.mode = m)
      step s = .next { s with
        acq := { s.acq with
          scanTime := s.acq.scanTime + dt, sleepTimer := if on then s.acq.sleepTimer else s.acq.sleepTimer + dt },
        drive := if on then { s.drive with
            retry := down s.drive.retry, stateTime := s.drive.stateTime + dt, stepTime := s.drive.stepTime + dt,
            crossTime := s.drive.crossTime + dt, revTime := s.drive.revTime + dt, quiet := s.drive.quiet + dt,
            nextComm := down s.drive.nextComm, stopCross := up s.drive.stopCross,
            rampTime := s.drive.rampTime + dt }
          else { s.drive with stopCross := up s.drive.stopCross },
        plan := { s.plan with
          trigTime := s.plan.trigTime + dt, btnTime := s.plan.btnTime + dt, pressTimer := up s.plan.pressTimer },
        dirt := if on then { s.dirt with bandBlank := down s.dirt.bandBlank } else s.dirt,
        pack := { s.pack with probeTime := s.pack.probeTime + dt },
        charge := { s.charge with
          dwell := down s.charge.dwell,
          mismatch :=
            (match s.charge.mismatch with
             | .none => .none
             | .over t => .over (t + dt)
             | .within t => .within (t + dt)),
          helloWait := if on then down s.charge.helloWait else s.charge.helloWait,
          silence := if on then up s.charge.silence else s.charge.silence,
          phaseTime := if on = true ∧ s.charge.session.map (·.faulted) = some false ∧ 0 < s.charge.cap then
              s.charge.phaseTime + dt else s.charge.phaseTime,
          bleedTime := if s.charge.session ≠ none ∧ true ∈ s.charge.bleed then s.charge.bleedTime + dt
            else s.charge.bleedTime },
        modem := { s.modem with
          window := s.modem.window.map (fun w => (w.1, w.2 - dt)),
          tx := s.modem.tx.map (fun x => { x with time := x.time + dt }) },
        frame := { s.frame with
          startup := down s.frame.startup, sending := s.frame.sending.map (fun x => (x.1, x.2 + dt)),
          gapTime := s.frame.gapTime + dt, telTimer := if on then down s.frame.telTimer else s.frame.telTimer,
          keep :=
            (match s.frame.keep with
             | .running first e => .running first (e + dt)
             | .idle => .idle
             | .expired => .expired) },
        log := if on then { s.log with
            session := s.log.session.map (fun a => { a with
              runTime := if a.kind = .clean ∧ s.drive.motor = .run then a.runTime + dt else a.runTime,
              ecoTime := if clean a .eco then a.ecoTime + dt else a.ecoTime,
              autoTime := if clean a .auto then a.autoTime + dt else a.autoTime,
              boostTime := if clean a .boost then a.boostTime + dt else a.boostTime }),
            idleTime := if s.log.session.map (·.kind) = some .clean ∧ s.drive.motor = .stopped then
                s.log.idleTime + dt else s.log.idleTime }
          else s.log,
        power := { s.power with
          settle := up s.power.settle,
          idleTimer := if s.power.state = .awake then up s.power.idleTimer else s.power.idleTimer,
          chord := s.power.chord.map (fun c => (c.1 + dt, c.2)), lineLow := up s.power.lineLow,
          lineBack := s.power.lineBack + dt, clock := min clockTop (s.power.clock + dt) } })

/-- Every command completes in every state: none faults and none is refused. -/
def Obligations.EveryCommandGoesOn : Prop := ∀ c : Instr, Safe c

/-- A timer command that comes before its time, count or window has run out, or where none runs, changes nothing, which
is the model's own choice (log 2; log 5 for the fast frames of a slot). A commutation of CAPTURE is due at its scheduled
time at a re-catch and T_cap after the one before otherwise, a probe interval after 100 ms in a pulse and 200 ms in a
rest, a stage of the contact transmitter after its bit-times, a chassis frame after 10 us for each character. -/
def Obligations.TimersNotDueChangeNothing : Prop :=
  ∀ s : State,
    (s.acq.slotIndex < s.slotCount → exec .scanCompletion s = .next s) ∧
    (∀ raw, s.acq.slotFrames < 10 → exec (.slotEnd raw) s = .next s) ∧
    (∀ ibus iph pz, 10 ≤ s.acq.slotFrames → exec (.fastFrame ibus iph pz) s = .next s) ∧
    (s.acq.sleepTimer < 12000 * 1000 → exec .sleepScanStart s = .next s) ∧
    (s.drive.stateTime < 12000 * s.alignTimeMs → exec .alignTime s = .next s) ∧
    (s.drive.stepTime < 12 * s.openInterval.toNat → exec .openStepEnd s = .next s) ∧
    (s.drive.capComms ≠ 0 → s.drive.stepTime < 12 * s.drive.tCap → exec .captureCommutation s = .next s) ∧
    (s.drive.capComms = 0 → s.drive.nextComm ≠ some 0 → exec .captureCommutation s = .next s) ∧
    (s.drive.motor ≠ .align → exec .alignTime s = .next s) ∧
    (s.drive.motor ≠ .rampOpen → exec .openStepEnd s = .next s) ∧
    (s.drive.motor ≠ .capture → exec .captureCommutation s = .next s) ∧
    (s.drive.motor ≠ .run → exec .scheduledCommutation s = .next s ∧ exec .lostSync s = .next s) ∧
    (s.drive.motor ≠ .coast → exec .coastStop s = .next s) ∧
    (s.drive.retry ≠ some 0 → exec .retryDwell s = .next s) ∧
    (s.drive.nextComm ≠ some 0 → exec .scheduledCommutation s = .next s) ∧
    (s.drive.crossTime < 24 * s.drive.tLast → exec .lostSync s = .next s) ∧
    (s.drive.quiet < 12000 * 20 → exec .coastStop s = .next s) ∧
    (s.drive.rampTime < 12000 → exec .rampStep s = .next s) ∧
    (s.dirt.winSamples < s.windowLength → exec .windowClose s = .next s) ∧
    (s.dirt.bandBlank ≠ some 0 → exec .bandBlank s = .next s) ∧
    (s.plan.trigTime < 12000 * 20 → exec .triggerPress s = .next s ∧ exec .triggerRelease s = .next s) ∧
    (s.plan.btnTime < 12000 * 20 → exec .buttonPress s = .next s ∧ exec .buttonRelease s = .next s) ∧
    (s.pack.probeTime < 12000 * 100 → exec .probeIntervalEnd s = .next s) ∧
    (∀ k, s.pack.probe = .rest k → s.pack.probeTime < 12000 * 200 → exec .probeIntervalEnd s = .next s) ∧
    (s.pack.probe = .idle → exec .probeIntervalEnd s = .next s) ∧
    (s.charge.dwell ≠ some 0 → exec .openDwell s = .next s) ∧
    (s.charge.helloWait ≠ some 0 → exec .helloWait s = .next s) ∧
    (s.silentFor 1000 = false → exec .silenceTime s = .next s) ∧
    (s.silentFor 5000 = false → exec .dockLinkLost s = .next s) ∧
    (∀ p, s.runningPhase = some p → s.charge.phaseTime < 12000000 * s.phaseField p 5 →
      exec .phaseTimeLimit s = .next s) ∧
    (∀ p, s.runningPhase = some p → s.phaseField p 5 = 0 → exec .phaseTimeLimit s = .next s) ∧
    (s.runningPhase = none → exec .phaseTimeLimit s = .next s) ∧
    (s.modem.toneRun < 6 → exec .carrierAssert s = .next s) ∧
    (s.modem.silRun < 3 → exec .carrierDeassert s = .next s) ∧
    (s.modem.fullCharacter = none → exec .characterComplete s = .next s) ∧
    (s.modem.bitsSince < 22 → exec .breakMark s = .next s) ∧
    ((∀ period, s.modem.window ≠ some (period, 0)) → exec .replyWindowExpiry s = .next s) ∧
    (s.modem.tx = none → exec .transmitStageEnd s = .next s ∧ exec .transmissionEnd s = .next s) ∧
    (∀ x, s.modem.tx = some x →
      (x.stage = .preamble → x.time < 625 * 8 → exec .transmitStageEnd s = .next s) ∧
      (x.stage = .frame → x.time < 625 * (11 * x.answer.bytes.length) → exec .transmitStageEnd s = .next s) ∧
      (x.stage = .postamble → exec .transmitStageEnd s = .next s) ∧
      (x.stage ≠ .postamble ∨ x.time < 625 * 2 → exec .transmissionEnd s = .next s)) ∧
    (s.frame.sending = none → exec .chassisFrameSent s = .next s) ∧
    (∀ f time, s.frame.sending = some (f, time) → time < 12 * (10 * f.bytes.length) →
      exec .chassisFrameSent s = .next s) ∧
    (s.frame.gapTime ≤ 12 * 100 → exec .gap s = .next s) ∧
    (s.frame.startup ≠ some 0 → exec .startUpWindow s = .next s) ∧
    (s.frame.telTimer ≠ some 0 → exec .telemetryEmission s = .next s) ∧
    (s.log.idleTime < 12000 * 600000 → exec .sessionIdleTime s = .next s) ∧
    (s.keepOver = false → exec .keepaliveWindowExpiry s = .next s) ∧
    (s.idleReached = false → exec .idleTimer s = .next s) ∧
    (s.settleOver = false → exec .settleEnd s = .next s) ∧
    (s.lowOver = false → exec .pinReset s = .next s) ∧
    (s.chordOver = false → exec .chordReset s = .next s) ∧
    (s.power.lineBack < 12 * 5 → exec .resetLineReturnHigh s = .next s)

/-! ### Sample traffic (01) -/

/-- R4: value = base + round((raw - offset) x gain / 1024), halves away from zero, clamped to -32768..32767. `r` is
the rounded quotient: no further than half from the exact one, and on the far side from zero where it is exactly half.
The converted value becomes the channel's latest value, saturated or not. -/
def Obligations.SampleConversion : Prop :=
  (∀ (entry : List Int) (raw : Nat),
     ∃ r : Int,
       2 * (1024 * r - ((raw : Int) - entry.getD 0 0) * entry.getD 1 0).natAbs ≤ 1024 ∧
       (2 * (1024 * r - ((raw : Int) - entry.getD 0 0) * entry.getD 1 0).natAbs = 1024 →
         (((raw : Int) - entry.getD 0 0) * entry.getD 1 0).natAbs < (1024 * r).natAbs) ∧
       convert entry raw = max (-32768) (min 32767 (entry.getD 2 0 + r))) ∧
  (∀ (s : State) (ch raw : Nat),
     (s.takeSample ch raw).acq.latest = s.acq.latest.set ch (convert (s.channelEntry ch) raw))

/-- A fast frame that is due (R1, R15): each of the three channels takes its converted value and saturation flag, IBUS
enters the scan-average accumulator, and the slot has one frame more. Where a sample changes a flag or a side condition,
what that brings about follows; then in AWAKE the frame is handed to the drive unit with the IBUS value (O17) and to the
dirt unit with the PZ value (O19), and in SLEEP to neither. A frame that changes no flag and no side condition leaves
every other block as it was: the causes, the planner, the pack monitor, the charge unit, the links, the tables, the log
and the power state; in AWAKE drive and dirt are then what driveFrame and dirtSample make of the state before. -/
def Obligations.FastFrameTaken : Prop :=
  ∀ (s : State) (ibus iph pz : Nat), s.frameDue = true →
    ∃ t, exec (.fastFrame ibus iph pz) s = .next t ∧
      t.acq.latest = ((s.acq.latest.set 0 (convert (s.channelEntry 0) ibus)).set 1
        (convert (s.channelEntry 1) iph)).set 2 (convert (s.channelEntry 2) pz) ∧
      t.acq.sat = ((s.acq.sat.set 0 (saturated ibus)).set 1 (saturated iph)).set 2 (saturated pz) ∧
      t.acq.accSum = s.acq.accSum + t.acq.latest.getD 0 0 ∧ t.acq.accCount = s.acq.accCount + 1 ∧
      t.acq.slotFrames = s.acq.slotFrames + 1 ∧ t.acq.slotIndex = s.acq.slotIndex ∧
      t.acq.lastSet = s.acq.lastSet ∧ t.acq.lastGood = s.acq.lastGood ∧ t.acq.scanVals = s.acq.scanVals ∧
      t.modem = s.modem ∧ t.pending = s.pending ∧ t.plan.mode = s.plan.mode ∧ t.pack.v = s.pack.v ∧
      t.pack.budget = s.pack.budget ∧ t.charge.presence = s.charge.presence ∧ t.frame.chSlot = s.frame.chSlot ∧
      t.power.state = s.power.state ∧
      (let checked := s.takeFast ibus iph pz
       let u := if s.frameChanges ibus iph pz then checked.settled else checked
       let counted : State := { u with acq := { u.acq with
         accSum := u.acq.accSum + u.acq.latest.getD 0 0, accCount := u.acq.accCount + 1,
         slotFrames := u.acq.slotFrames + 1 } }
       t = if s.awake then (counted.driveFrame (t.acq.latest.getD 0 0)).dirtSample (t.acq.latest.getD 2 0)
         else counted) ∧
      (s.awake = true → t.dirt.winSamples = s.dirt.winSamples + 1) ∧
      (s.frameChanges ibus iph pz = false →
        t.cause = s.cause ∧ t.plan = s.plan ∧ t.pack = s.pack ∧ t.charge = s.charge ∧ t.frame = s.frame ∧
        t.tables = s.tables ∧ t.log = s.log ∧ t.power = s.power ∧
        (s.awake = true → t.drive = (s.driveFrame (t.acq.latest.getD 0 0)).drive ∧
          t.dirt = (s.dirtSample (t.acq.latest.getD 2 0)).dirt) ∧
        (s.awake = false → t.drive = s.drive ∧ t.dirt = s.dirt))

/-- The end of a slot that is due (R2, R6): the channel of the slot takes its value and flag, the scan records the
value, a cell's last unsaturated value or mark follows, and the next slot begins. A checked side of a channel (R7):
beyond its limit the count rises to at most debounce, and the side's condition is present once the count has reached
it; at or within the limit the count is 0 and the condition gone. The kind that a side names (R8): its onset comes with
the first side that becomes present, with the channel as detail; a further side, or one that ends while another holds
the kind, moves only itself; the kind ends with its last side. SAMPLE_SATURATED (R5) begins at the sample that sets the
first flag, with its channel as detail, and ends at the one that clears the last; so it stays present exactly while a
flag is set, over slot ends and fast frames. -/
def Obligations.SlotsAndLimits : Prop :=
  (∀ (s : State) (raw : Nat), s.slotDue = true →
     ∃ t, exec (.slotEnd raw) s = .next t ∧
       (let ch := s.slotChannel (s.acq.slotIndex + 1)
        let v := convert (s.channelEntry ch) raw
        t.acq.latest = s.acq.latest.set ch v ∧ t.acq.sat = s.acq.sat.set ch (saturated raw) ∧
        t.acq.scanVals = s.acq.scanVals.set ch (some v) ∧
        t.acq.lastGood =
          (if 5 ≤ ch ∧ ch ≤ 11 ∧ saturated raw = false then s.acq.lastGood.set (ch - 5) v else s.acq.lastGood) ∧
        t.acq.scanSat =
          (if 5 ≤ ch ∧ ch ≤ 11 ∧ saturated raw = true then s.acq.scanSat.set (ch - 5) true else s.acq.scanSat)) ∧
       t.acq.slotIndex = s.acq.slotIndex + 1 ∧ t.acq.slotFrames = 0 ∧
       t.acq.accSum = s.acq.accSum ∧ t.acq.accCount = s.acq.accCount ∧ t.acq.lastSet = s.acq.lastSet ∧
       t.modem = s.modem ∧ t.pending = s.pending ∧ t.dirt.level = s.dirt.level ∧ t.pack.v = s.pack.v ∧
       t.charge.presence = s.charge.presence ∧ t.frame.chSlot = s.frame.chSlot ∧ t.power.state = s.power.state) ∧
  (∀ (s : State) (ch : Nat) (high : Bool) (v : Int) (k : CauseKind),
     channelKind? (s.sideCause ch high) = some k →
     ch < s.acq.lowCount.length → ch < s.acq.highCount.length → ch < s.acq.lowOn.length → ch < s.acq.highOn.length →
     let past := (high = true ∧ s.channelField ch 4 < v) ∨ (high = false ∧ v < s.channelField ch 3)
     let count := if past then min (s.debounce ch) (s.sideCount ch high + 1) else 0
     let on := if past then s.sideOn ch high || decide (s.debounce ch ≤ s.sideCount ch high + 1) else false
     let u := s.setSide ch high count on
     (s.checkSide ch high v).sideCount ch high = count ∧ (s.checkSide ch high v).sideOn ch high = on ∧
     (s.checkSide ch high v).sideCount ch (!high) = s.sideCount ch (!high) ∧
     (s.checkSide ch high v).acq.latest = s.acq.latest ∧
     (on = s.sideOn ch high → s.checkSide ch high v = u) ∧
     (s.sideOn ch high = false → on = true → s.checkSide ch high v = u.raise k ch) ∧
     (s.sideOn ch high = true → on = false →
       ((∃ c h, c < 16 ∧ u.sideOn c h = true ∧ s.sideCause c h = kindNum k) → s.checkSide ch high v = u) ∧
       ((∀ c h, c < 16 → u.sideOn c h = true → s.sideCause c h ≠ kindNum k) →
         s.checkSide ch high v = u.endCond k))) ∧
  (∀ (s : State) (ch : Nat) (v : Int) (b : Bool),
     let u : State := { s with acq := { s.acq with latest := s.acq.latest.set ch v, sat := s.acq.sat.set ch b } }
     ((true ∈ u.acq.sat ↔ true ∈ s.acq.sat) → s.storeSample ch v b = u) ∧
     (true ∉ s.acq.sat → true ∈ u.acq.sat → s.storeSample ch v b = u.raise .sampleSaturated ch) ∧
     (true ∈ s.acq.sat → true ∉ u.acq.sat → s.storeSample ch v b = u.endCond .sampleSaturated)) ∧
  (∀ s : State, s.cause.present.length = 16 → (s.cond .sampleSaturated = true ↔ true ∈ s.acq.sat) →
     (∀ raw t, exec (.slotEnd raw) s = .next t → (t.cond .sampleSaturated = true ↔ true ∈ t.acq.sat)) ∧
     (∀ ibus iph pz t, exec (.fastFrame ibus iph pz) s = .next t →
       (t.cond .sampleSaturated = true ↔ true ∈ t.acq.sat)))

/-- The completion of a scan (R3, R16): the set of the scan becomes the latest completed scan; then the dirt unit takes
an optical value in AWAKE, first of the consumers (log 45), the pack monitor, the charge unit and the planner act on the
set, in this order or, where the
order matters, in any (log 4), and in AWAKE the next scan starts. A consumer acts and what it changes follows, unless one
before it has ended the part's run. Last, telemetry's pack figures are those that the completion leaves (R107, log 42).
In AWAKE the next scan has started with its accumulator cleared, its CHANNELS, SCAN and PACK images the ones that waited.
In SLEEP with fewer than two scans in the ship count the set is kept, and the part sleeps on where no dock comes. A SLEEP
scan that is due starts at its first slot, with the accumulator and the scan's record cleared (R3, R15). The changeovers
at a scan start (R11, R14; their order is free, log 4): a CHANNELS image puts every debounce count to 0 and keeps a side
condition where the new entry names the same cause for the side; a SCAN image takes counts, side conditions and flag from
each slow channel that its list does not name; a kind, and SAMPLE_SATURATED, ends with its last side or flag; latest and
last unsaturated values stay. -/
def Obligations.ScansCompleteAndStart : Prop :=
  (∀ s : State,
     s.scanSet.cells = s.acq.lastGood ∧ s.scanSet.cellSat = s.acq.scanSat ∧
     s.scanSet.iScan = roundDiv s.acq.accSum s.acq.accCount ∧ s.scanSet.durationUs = 125 * s.slotCount ∧
     s.scanSet.asleep = s.acq.scanAsleep ∧ s.scanSet.opt = s.acq.scanVals.getD 15 none ∧
     (let value (ch : Nat) : Int := (s.acq.scanVals.getD ch none).getD (s.acq.latest.getD ch 0)
      s.scanSet.vbus = value 3 ∧ s.scanSet.vdock = value 4 ∧ s.scanSet.tp1 = value 12 ∧ s.scanSet.tp2 = value 13 ∧
      s.scanSet.tbrg = value 14) ∧
     (s.completionDue = true →
       let x := s.scanSet
       let taken : State := { s with
         acq := { s.acq with scanning := false, lastSet := some x },
         pack := { s.pack with skipNow := s.pack.skipEst, skipEst := false },
         power := { s.power with settleScan := s.power.settleScan || s.acq.scanFresh } }
       let u := taken.dirtScan x
       let w := u.freeUsed
       ∃ h t : State,
         h ∈ [((u.packPart x).chargePart x).planPart x, ((w.packPart x).chargePart x).planPart x,
           ((w.packPart x).planPart x).chargePart x, ((w.chargePart x).packPart x).planPart x,
           ((w.chargePart x).planPart x).packPart x, ((w.planPart x).packPart x).chargePart x,
           ((w.planPart x).chargePart x).packPart x] ∧
         t = h.startScanIfAwake.settled ∧
         exec .scanCompletion s = .next { t with pack := { t.pack with
           report := { r := t.pack.r, q := t.pack.q, qFull := t.pack.qFull, soc := t.pack.soc } } })) ∧
  (∀ (s : State) (x : ScanSet),
     (s.live = true → s.acq.lastSet ≠ none →
       s.packPart x = ((s.packScan x).latchTest).settled ∧ s.chargePart x = (s.chargeScan x).settled ∧
       s.planPart x = (s.blockageScan x).settled) ∧
     (s.live = false ∨ s.acq.lastSet = none →
       s.packPart x = s ∧ s.chargePart x = s ∧ s.planPart x = s)) ∧
  (∀ s : State, s.completionDue = true → s.awake = true →
     ∃ t, exec .scanCompletion s = .next t ∧
       t.acq.lastSet = some s.scanSet ∧ t.pack.v = s.scanSet.volts ∧ t.pack.prev = some s.scanSet.point ∧
       t.acq.scanning = true ∧ t.acq.slotIndex = 0 ∧ t.acq.slotFrames = 0 ∧ t.acq.accSum = 0 ∧ t.acq.accCount = 0 ∧
       t.acq.latest = s.acq.latest ∧ t.acq.lastGood = s.acq.lastGood ∧
       (∀ v, s.scanSet.opt = some v →
         t.dirt.optSum = s.dirt.optSum + v ∧ t.dirt.optCount = s.dirt.optCount + 1) ∧
       (s.scanSet.opt = none → t.dirt.optSum = s.dirt.optSum ∧ t.dirt.optCount = s.dirt.optCount) ∧
       t.modem.fifo = s.modem.fifo ∧ t.pending = s.pending ∧ t.dirt.level = s.dirt.level ∧
       t.frame.chSlot = s.frame.chSlot ∧ t.power.state = .awake ∧ t.plan.mode = s.plan.mode ∧
       (let taken (x : TableSlot) : TableSlot := { x with active := x.waiting.getD x.active, waiting := none }
        t.tables.channels = taken s.tables.channels ∧ t.tables.scan = taken s.tables.scan ∧
        t.tables.pack = taken s.tables.pack)) ∧
  (∀ s : State, s.completionDue = true → s.power.state = .sleep → s.pack.shipCount < 2 →
     ∃ t, exec .scanCompletion s = .next t ∧
       t.acq.lastSet = some s.scanSet ∧ t.pack.v = s.scanSet.volts ∧ t.pack.prev = some s.scanSet.point ∧
       t.acq.latest = s.acq.latest ∧ t.acq.lastGood = s.acq.lastGood ∧ t.dirt.level = s.dirt.level ∧
       t.frame.chSlot = s.frame.chSlot ∧ t.pending = s.pending ∧ t.plan.mode = s.plan.mode ∧
       (s.highTimeAfter s.scanSet < 100000 →
         t.power.state = .sleep ∧ t.acq.scanning = false ∧ t.acq.sleepTimer = s.acq.sleepTimer ∧
         t.dirt.optSum = s.dirt.optSum ∧ t.modem = s.modem) ∧
       (100000 ≤ s.highTimeAfter s.scanSet → t.power.state = .awake ∧ t.acq.scanning = true)) ∧
  (∀ s : State, s.sleepScanDue = true →
     ∃ t, exec .sleepScanStart s = .next t ∧
       t.acq.scanning = true ∧ t.acq.slotIndex = 0 ∧ t.acq.slotFrames = 0 ∧ t.acq.accSum = 0 ∧ t.acq.accCount = 0 ∧
       t.acq.scanVals = List.replicate 16 none ∧ t.acq.sleepTimer = 0 ∧
       t.acq.latest = s.acq.latest ∧ t.acq.lastSet = s.acq.lastSet ∧ t.acq.lastGood = s.acq.lastGood ∧
       t.tables.channels.waiting = none ∧ t.tables.scan.waiting = none ∧
       t.tables.channels.active = s.tables.channels.waiting.getD s.tables.channels.active ∧
       t.tables.scan.active = s.tables.scan.waiting.getD s.tables.scan.active ∧
       t.modem = s.modem ∧ t.pack.v = s.pack.v ∧ t.dirt.level = s.dirt.level ∧ t.power.state = s.power.state ∧
       t.pending = s.pending) ∧
  (∀ s : State,
     (∃ u : State, u ∈ [s.takeUpChannels.takeUpScan, s.freeUsed.takeUpChannels.takeUpScan,
         s.freeUsed.takeUpScan.takeUpChannels] ∧
       s.startScan = { u with acq := { u.acq with
         scanning := true, scanFresh := true, scanAsleep := decide (s.power.state = .sleep), scanInPulse := true,
         scanTime := 0, slotIndex := 0, slotFrames := 0, scanVals := List.replicate 16 none,
         scanSat := List.replicate 7 false, accSum := 0, accCount := 0 } }) ∧
     (s.tables.channels.waiting = none → s.takeUpChannels = s) ∧ (s.tables.scan.waiting = none → s.takeUpScan = s)) ∧
  (∀ (s : State) (img : Image), s.cause.present.length = 16 → s.acq.sat.length = 16 →
     s.acq.lowCount.length = 16 → s.acq.highCount.length = 16 → s.acq.lowOn.length = 16 → s.acq.highOn.length = 16 →
     let kindsFollow (t : State) : Prop :=
       ∀ k, k ∈ [CauseKind.overcurrent, .bridgeHot, .cellOver, .packHot, .packCold, .dockOvervolt] →
         (t.cond k = true ↔
           s.cond k = true ∧ ∃ c h, c < 16 ∧ t.sideOn c h = true ∧ t.sideCause c h = kindNum k)
     let kept (t : State) : Prop := t.acq.latest = s.acq.latest ∧ t.acq.lastGood = s.acq.lastGood
     (s.tables.channels.waiting = some img →
       let t := s.takeUpChannels
       t.tables.channels.active = img ∧ t.tables.channels.waiting = none ∧ kept t ∧ t.acq.sat = s.acq.sat ∧
       kindsFollow t ∧
       ∀ c h, c < 16 → t.sideCount c h = 0 ∧
         (t.sideOn c h = true ↔
           s.sideOn c h = true ∧ t.sideCause c h = s.sideCause c h ∧ t.sideCause c h ≠ 0)) ∧
     (s.tables.scan.waiting = some img →
       let t := s.takeUpScan
       let named (c : Nat) : Prop := ∃ k, 1 ≤ k ∧ k ≤ fieldNat img 0 0 ∧ fieldNat img k 0 = c
       t.tables.scan.active = img ∧ t.tables.scan.waiting = none ∧ kept t ∧ kindsFollow t ∧
       (t.cond .sampleSaturated = true ↔ s.cond .sampleSaturated = true ∧ true ∈ t.acq.sat) ∧
       ∀ c, c < 16 →
         (3 ≤ c → ¬ named c →
           t.acq.sat.getD c false = false ∧ ∀ h, t.sideCount c h = 0 ∧ t.sideOn c h = false) ∧
         (c < 3 ∨ named c →
           t.acq.sat.getD c false = s.acq.sat.getD c false ∧
           ∀ h, t.sideCount c h = s.sideCount c h ∧ t.sideOn c h = s.sideOn c h)))

/-! ### Suction drive (02) -/

/-- R24: the six vectors with the floating phase and the direction of the expected crossing; a commutation goes from
step n to n + 1 and from 6 to 1; a crossing identifies the step that expects it, and no two steps share one. The
bridge drives the vector of its step with the duty in force in the driving states, and every switch is off otherwise
and at duty 0. The align vector is step 1. -/
def Obligations.VectorsAndCrossings : Prop :=
  driveVector 1 = (.u, .v, .w, .falling) ∧ driveVector 2 = (.u, .w, .v, .rising) ∧
  driveVector 3 = (.v, .w, .u, .falling) ∧ driveVector 4 = (.v, .u, .w, .rising) ∧
  driveVector 5 = (.w, .u, .v, .falling) ∧ driveVector 6 = (.w, .v, .u, .rising) ∧
  (∀ n, 1 ≤ n → n < 6 → nextStep n = n + 1) ∧ nextStep 6 = 1 ∧
  (∀ n, 1 ≤ n → n ≤ 6 → crossingStep (driveVector n).2.2.1 (driveVector n).2.2.2 = n) ∧
  (∀ m n, 1 ≤ m → m ≤ 6 → 1 ≤ n → n ≤ 6 → (driveVector m).2.2 = (driveVector n).2.2 → m = n) ∧
  (∀ s : State, s.bridge =
    if (s.drive.motor = .align ∨ s.drive.motor = .rampOpen ∨ s.drive.motor = .capture ∨ s.drive.motor = .run ∨
        s.drive.motor = .probe) ∧ 0 < s.drive.duty then
      some ((driveVector s.drive.step).1, (driveVector s.drive.step).2.1, s.drive.duty)
    else none) ∧
  (∀ s : State, s.startSequence.drive.step = 1 ∧ s.beginProbe.drive.step = 1)

/-- ALIGN and RAMP_OPEN (R26, R27): align_time ends ALIGN into open step 0 on step 2; at the end of open step k (an
interval of 0 us or less ends at once, log 10; a step counts from the command that began it, also a late one, log 33),
an interval at or below handover_interval enters CAPTURE with its first commutation issued and T_cap the handover
interval; otherwise the step limit fails the attempt, or the next step begins. CAPTURE (R28): a commutation falls due
T_cap after the one before, or at the scheduled time at the start of a re-catch; one whose predecessor showed no
crossing breaks the run; after the twelfth the attempt fails instead. The first crossing of the expected direction
after a commutation counts when it lies 3/8 to 5/8 of T_cap after it, ends included, and otherwise breaks the run; a
later one changes nothing. -/
def Obligations.StartsStepOpenLoopAndCapture : Prop :=
  (∀ s : State,
     (s.drive.motor = .align → 12000 * s.alignTimeMs ≤ s.drive.stateTime →
       exec .alignTime s = .next { s with drive := { s.drive with
         motor := .rampOpen, openStep := 0, step := 2, stepTime := 0 } }) ∧
     (s.drive.motor = .rampOpen → 12 * (s.startInterval - s.drive.openStep * s.intervalStep).toNat ≤ s.drive.stepTime →
       ((s.startInterval - s.drive.openStep * s.intervalStep ≤ s.handoverInterval →
         exec .openStepEnd s = .next { s with drive := { s.drive with
           motor := .capture, tCap := s.handoverInterval, step := nextStep s.drive.step, stepTime := 0,
           capComms := 1, capRun := 0, capSeen := false, nextComm := none, crossKnown := false } }) ∧
       (s.handoverInterval < s.startInterval - s.drive.openStep * s.intervalStep →
         s.maxOpenSteps ≤ s.drive.openStep + 1 → exec .openStepEnd s = .next s.failAttempt.settled) ∧
       (s.handoverInterval < s.startInterval - s.drive.openStep * s.intervalStep →
         s.drive.openStep + 1 < s.maxOpenSteps →
         exec .openStepEnd s = .next { s with drive := { s.drive with
           openStep := s.drive.openStep + 1, step := nextStep s.drive.step, stepTime := 0 } })))) ∧
  (∀ s : State, s.drive.motor = .capture →
     (((s.drive.capComms = 0 ∧ s.drive.nextComm = some 0) ∨
         (s.drive.capComms ≠ 0 ∧ 12 * s.drive.tCap ≤ s.drive.stepTime)) →
       (s.drive.capComms < 12 →
         exec .captureCommutation s = .next { s with drive := { s.drive with
           capRun := if s.drive.capSeen then s.drive.capRun else 0,
           capComms := s.drive.capComms + 1, capSeen := false, nextComm := none,
           step := nextStep s.drive.step, stepTime := 0 } }) ∧
       (12 ≤ s.drive.capComms → exec .captureCommutation s = .next s.failAttempt.settled)) ∧
     (∀ (ph : Phase) (dir : Direction), s.awake = true →
       ((s.drive.capSeen = true ∨ s.drive.capComms = 0 ∨ crossingStep ph dir ≠ s.drive.step) →
         exec (.zeroCrossing ph dir) s = .next s) ∧
       (s.drive.capSeen = false → 1 ≤ s.drive.capComms → crossingStep ph dir = s.drive.step →
         (s.drive.capRun < 5 → 36 * s.drive.tCap ≤ 8 * s.drive.stepTime → 8 * s.drive.stepTime ≤ 60 * s.drive.tCap →
           exec (.zeroCrossing ph dir) s = .next { s with drive := { s.drive with
             capRun := s.drive.capRun + 1, capSeen := true, crossTime := 0, crossKnown := true } }) ∧
         (5 ≤ s.drive.capRun → 36 * s.drive.tCap ≤ 8 * s.drive.stepTime → 8 * s.drive.stepTime ≤ 60 * s.drive.tCap →
           exec (.zeroCrossing ph dir) s = .next s.enterRun.settled) ∧
         (8 * s.drive.stepTime < 36 * s.drive.tCap ∨ 60 * s.drive.tCap < 8 * s.drive.stepTime →
           exec (.zeroCrossing ph dir) s = .next { s with drive := { s.drive with
             capRun := 0, capSeen := true, crossTime := 0, crossKnown := true } }))))

/-- RUN entry with no DRIVE image pending (R31): T_last the last crossing interval, S_m = floor(10,000,000 / T_last)
where T_last is not 0, S_t the smaller of S_m and speed_max, the integrator duty x 65536, P_last 0, no hold, the
revolution count 0 with its origin here, the next commutation after T_last / 2, LOST_SYNC ended; duty stays. -/
def Obligations.RunEntrySets : Prop :=
  ∀ s : State, s.isPending .drive = false →
    s.enterRun.drive.motor = .run ∧ s.enterRun.drive.tLast = s.drive.crossTime / 12 ∧
    (12 ≤ s.drive.crossTime → s.enterRun.drive.sM = 10000000 / (s.drive.crossTime / 12)) ∧
    s.enterRun.drive.sT = min s.enterRun.drive.sM s.speedMax ∧
    s.enterRun.drive.integ = (s.drive.duty : Int) * 65536 ∧ s.enterRun.drive.pLast = 0 ∧
    s.enterRun.drive.hold = none ∧ s.enterRun.drive.revCount = 0 ∧ s.enterRun.drive.revTime = 0 ∧
    s.enterRun.drive.nextComm = some (12 * (s.drive.crossTime / 12 / 2)) ∧ s.enterRun.drive.duty = s.drive.duty ∧
    s.enterRun.drive.step = s.drive.step ∧ s.enterRun.drive.attempts = s.drive.attempts ∧
    s.enterRun.cond .lostSync = false ∧ s.enterRun.plan = s.plan ∧ s.enterRun.charge = s.charge ∧
    s.enterRun.log = s.log ∧ s.enterRun.tables = s.tables

/-- A crossing in RUN before the sixth of its revolution (R32): one of the step's expected direction, after its
commutation and at least T_last / 8 later, sets T_last to the whole us since the last one, schedules the commutation
T_last / 2 later and counts; any other changes nothing. The scheduled commutation steps the vector. -/
def Obligations.RunCommutatesFromCrossings : Prop :=
  ∀ s : State, s.drive.motor = .run →
    (∀ (ph : Phase) (dir : Direction), s.awake = true →
      (s.drive.armed = true → crossingStep ph dir = s.drive.step → 12 * s.drive.tLast ≤ 8 * s.drive.stepTime →
        s.drive.revCount < 5 →
        exec (.zeroCrossing ph dir) s = .next { s with drive := { s.drive with
          tLast := s.drive.crossTime / 12, crossTime := 0,
          nextComm := some (12 * (s.drive.crossTime / 12 / 2)), armed := false,
          revCount := s.drive.revCount + 1 } }) ∧
      (s.drive.armed = false ∨ crossingStep ph dir ≠ s.drive.step ∨ 8 * s.drive.stepTime < 12 * s.drive.tLast →
        exec (.zeroCrossing ph dir) s = .next s)) ∧
    (s.drive.nextComm = some 0 →
      exec .scheduledCommutation s = .next { s with drive := { s.drive with
        step := nextStep s.drive.step, stepTime := 0, nextComm := none, armed := true } })

/-- R38: e = S_t - S_m, P = truncate(e x Kp / 65536), the trial integrator is the integrator plus e x Ki, u = P +
truncate(trial / 65536), the duty is u clamped between duty_min and duty_max, or the foldback ceiling with the hold
on; the trial integrator stands only where u lies within the bounds; P_last is P. The crossing that completes a
revolution in RUN sets S_m from its time, takes up a pending DRIVE image, releases the hold where the revolution had
no foldback, evaluates the PI and places S_m in a band (R33, R40); with no image pending the rest of the part stays.
T_rev is read in whole us, floored (log 32); at 0 us S_m is free, and the counter of free values moves on (log 6). The
band of a speed (R78): up from the band in use while the speed is at or above the band's upper edge, at most to 7; else
down while it lies more than 1000 rpm below the edge of the band below. A change of band is one, however many it
crosses: the thresholds of the new row and one band blank of 50 ms (R46, R64). -/
def Obligations.RevolutionEvaluatesThePI : Prop :=
  (∀ s : State,
     let e : Int := (s.drive.sT : Int) - s.drive.sM
     let p : Int := (e * s.kp).tdiv 65536
     let trial : Int := s.drive.integ + e * s.ki
     let u : Int := p + trial.tdiv 65536
     let upper : Int := (s.drive.hold.getD s.dutyMax : Nat)
     let t := s.evalPI
     ((s.dutyMin : Int) ≤ upper → (t.drive.duty : Int) = max (s.dutyMin : Int) (min upper u)) ∧
     t = { s with drive := { s.drive with
       duty := t.drive.duty,
       integ := if (s.dutyMin : Int) ≤ u ∧ u ≤ upper then trial else s.drive.integ, pLast := p } }) ∧
  (∀ (s : State) (ph : Phase) (dir : Direction), s.drive.motor = .run → s.awake = true → s.drive.armed = true →
     crossingStep ph dir = s.drive.step → 12 * s.drive.tLast ≤ 8 * s.drive.stepTime → 5 ≤ s.drive.revCount →
     let at6 : State := { s with drive := { s.drive with
       tLast := s.drive.crossTime / 12, crossTime := 0, nextComm := some (12 * (s.drive.crossTime / 12 / 2)),
       armed := false, revCount := 0, revTime := 0, sM := s.speedOf 60000000 (s.drive.revTime / 12) } }
     let done := (at6.freeUsed.takeUpDrive.releaseHold.evalPI).planBand
     exec (.zeroCrossing ph dir) s = .next (if s.isPending .drive = true then done.settled else done) ∧
     (12 ≤ s.drive.revTime → at6.drive.sM = 60000000 / (s.drive.revTime / 12)) ∧
     (s.isPending .drive = false →
       done.drive.hold = (if s.drive.foldMark then s.drive.hold else none) ∧ done.drive.foldMark = false ∧
       done.drive.motor = .run ∧ done.drive.sT = s.drive.sT ∧ done.drive.sM = at6.drive.sM ∧
       done.drive.step = s.drive.step ∧ done.plan.band = s.bandOf at6.drive.sM ∧ done.acq = s.acq ∧
       done.pack = s.pack ∧ done.charge = s.charge ∧ done.modem = s.modem ∧ done.frame = s.frame ∧
       done.tables = s.tables ∧ done.cause = s.cause ∧ done.log = s.log ∧ done.power = s.power ∧
       done.pending = s.pending)) ∧
  (∀ (s : State) (speed : Nat), s.plan.band ≤ 7 →
     let b := s.plan.band
     let n := s.bandOf speed
     (b < 7 → s.bandField b 0 ≤ speed →
       b < n ∧ n ≤ 7 ∧ (∀ c, b ≤ c → c < n → s.bandField c 0 ≤ speed) ∧ (n < 7 → speed < s.bandField n 0)) ∧
     (b = 7 ∨ speed < s.bandField b 0 →
       n ≤ b ∧ (∀ c, n ≤ c → c < b → speed + 1000 < s.bandField c 0) ∧
       (0 < n → s.bandField (n - 1) 0 ≤ speed + 1000))) ∧
  (∀ (s : State) (b : Nat),
     s.planBand = s.setBand (s.bandOf s.drive.sM) ∧ (s.plan.band = b → s.setBand b = s) ∧
     (s.plan.band ≠ b → s.setBand b = { s with
       plan := { s.plan with band := b },
       dirt := { s.dirt with
         armA := s.bandField b 1, relL := s.bandField b 2, bandBlank := some (12000 * 50) } }))

/-- Lost sync (R34): with no accepted crossing within 2 x T_last the bridge is off, in COAST or LOCKOUT, S_t is 0 with
the duty (the duty in COAST is the model's reading, log 7), S_m keeps its value, and LOST_SYNC is present. The failed
attempt is counted; with `u` the state after it, LOCKOUT follows where the run demand is still up in `u` and the count is
above start_retries, and COAST otherwise: so where the action of LOST_SYNC, HOLD or TRIP, takes the run demand down in
this event (log 9). A failed attempt (R29, R30): the bridge is off and S_t 0, the attempt count one more; above
start_retries the motor is in LOCKOUT with START_FAIL present (unless START_FAIL's own action trips), otherwise in COAST
with the retry dwell running where the run demand is up. -/
def Obligations.LostSyncAndFailedAttempts : Prop :=
  (∀ s : State, s.drive.motor = .run → 24 * s.drive.tLast ≤ s.drive.crossTime → s.cause.present.length = 16 →
     ∃ t, exec .lostSync s = .next t ∧ (t.drive.motor = .coast ∨ t.drive.motor = .lockout) ∧ t.bridge = none ∧
       t.drive.duty = 0 ∧ t.drive.sT = 0 ∧ t.drive.sM = s.drive.sM ∧ t.drive.hold = none ∧
       t.cond .lostSync = true ∧ t.acq = s.acq ∧ t.modem = s.modem ∧ t.pending = s.pending ∧
       t.power.state = s.power.state ∧ t.charge.presence = s.charge.presence ∧
       (let off := s.enterCoast.raise .lostSync 0
        let u := ({ off with drive := { off.drive with attempts := off.drive.attempts + 1 } } : State).settled
        t = if u.drive.demand = true ∧ u.startRetries < u.drive.attempts then u.enterLockout.settled else u) ∧
       (s.cond .lostSync = false → s.actionOf .lostSync = 2 ∨ s.actionOf .lostSync = 3 →
         t.drive.motor = .coast ∧ t.drive.demand = false)) ∧
  (∀ s : State, s.isPending .drive = false → s.cause.present.length = 16 → s.actionOf .startFail ≠ 3 →
     s.cond .startFail = false →
     (s.failAttempt).drive.attempts = s.drive.attempts + 1 ∧ s.failAttempt.drive.sT = 0 ∧ s.failAttempt.bridge = none ∧
     (s.startRetries < s.drive.attempts + 1 →
       s.failAttempt.drive.motor = .lockout ∧ s.failAttempt.cond .startFail = true) ∧
     (s.drive.attempts + 1 ≤ s.startRetries →
       s.failAttempt.drive.motor = .coast ∧
       s.failAttempt.drive.retry = (if s.drive.demand then some (12000 * s.retryDwellMs) else s.drive.retry)))

/-- Speed tracking with the bridge off (R35): in COAST and LOCKOUT a crossing before the sixth sets T_c to the us
since the previous crossing and keeps the step it identifies; in COAST it begins a re-catch where one was due (R36). The
sixth, with the revolution's origin known and at least 1 us of it, sets S_m to floor(60,000,000 / T_rev) besides; below
1500 rpm it stops a motor in COAST, also where a re-catch is still due (log 49), never one in LOCKOUT. The comparators
where they start nothing (R25, R27, R42): a
first crossing in STOPPED is remembered, a second within 20 ms turns STOPPED into COAST; in ALIGN, RAMP_OPEN and PROBE,
and outside AWAKE, a crossing changes nothing. T_c and T_rev are read in whole us, floored (log 32), and each tracked
crossing moves on the counter of free values, which stand for T_c and S_m where the spec gives none (logs 4 and 6). -/
def Obligations.CrossingsByMotorState : Prop :=
  (∀ (s : State) (ph : Phase) (dir : Direction), s.awake = true → s.drive.crossKnown = true → s.drive.revCount < 5 →
     (s.drive.motor = .lockout ∨ (s.drive.motor = .coast ∧ s.recatchDue = false) →
       exec (.zeroCrossing ph dir) s = .next { s with
         drive := { s.drive with
           tC := s.drive.crossTime / 12, coastStep := crossingStep ph dir, crossTime := 0, quiet := 0,
           revCount := s.drive.revCount + 1, crossKnown := true, revKnown := s.drive.revKnown },
         freeCtr := s.freeCtr + 1 }) ∧
     (s.drive.motor = .coast → s.recatchDue = true →
       ∃ t, exec (.zeroCrossing ph dir) s = .next t ∧ t.drive.motor = .capture ∧
         t.drive.tCap = s.drive.crossTime / 12 ∧ t.drive.step = crossingStep ph dir ∧ t.drive.duty = 0 ∧
         t.drive.capComms = 0 ∧ t.drive.nextComm = some (12 * (s.drive.crossTime / 12 / 2)) ∧
         t.drive.sM = s.drive.sM ∧ t.drive.sT = s.drive.sT ∧ t.acq = s.acq ∧ t.charge = s.charge ∧ t.pack = s.pack ∧
         t.cause = s.cause ∧ t.plan = s.plan ∧ (s.log.session = none → t.log.session = some (s.newSession .clean)))) ∧
  (∀ (s : State) (ph : Phase) (dir : Direction), s.awake = true → s.drive.crossKnown = true →
     s.drive.revKnown = true → 12 ≤ s.drive.revTime → 5 ≤ s.drive.revCount →
     let speed := 60000000 / (s.drive.revTime / 12)
     let u : State := { s with
       drive := { s.drive with
         tC := s.drive.crossTime / 12, coastStep := crossingStep ph dir, crossTime := 0, quiet := 0, revCount := 0,
         sM := speed, revTime := 0 },
       freeCtr := s.freeCtr + 1 }
     (s.drive.motor = .lockout → exec (.zeroCrossing ph dir) s = .next u) ∧
     (s.drive.motor = .coast → 1500 ≤ speed → s.recatchDue = false ∨ speed < s.handoverSpeed →
       exec (.zeroCrossing ph dir) s = .next u) ∧
     (s.drive.motor = .coast → 1500 ≤ speed → s.recatchDue = true → s.handoverSpeed ≤ speed →
       ∃ t, exec (.zeroCrossing ph dir) s = .next t ∧ t.drive.motor = .capture ∧ t.drive.sM = speed ∧
         t.drive.tCap = s.drive.crossTime / 12 ∧ t.drive.step = crossingStep ph dir) ∧
     (s.drive.motor = .coast → speed < 1500 →
       ∃ t, exec (.zeroCrossing ph dir) s = .next t ∧ t = u.enterStopped.settled ∧ t.drive.sM = 0 ∧
         t.bridge = none ∧ (s.plan.trigger = false → s.drive.demand = false → t.drive.motor = .stopped))) ∧
  (∀ (s : State) (ph : Phase) (dir : Direction),
     (s.awake = false → exec (.zeroCrossing ph dir) s = .next s) ∧
     (s.drive.motor = .align ∨ s.drive.motor = .rampOpen ∨ s.drive.motor = .probe →
       exec (.zeroCrossing ph dir) s = .next s) ∧
     (s.awake = true → s.drive.motor = .stopped →
       (∀ time, s.drive.stopCross = some time → time < 12000 * 20 →
         ∃ t, exec (.zeroCrossing ph dir) s = .next t ∧ t.drive.motor = .coast ∧ t.bridge = none ∧ t.acq = s.acq ∧
           t.modem = s.modem) ∧
       ((∀ time, s.drive.stopCross = some time → 12000 * 20 ≤ time) →
         exec (.zeroCrossing ph dir) s = .next { s with drive := { s.drive with stopCross := some 0 } })))

/-- COAST ends after 20 ms without a crossing (R35): S_m and S_t are 0, the bridge drives nothing, LOST_SYNC has
ended, and the motor is STOPPED unless a start follows at once (R25). The end of a retry dwell starts a STOPPED motor
whose run demand is up (R29). The retry waits for STOPPED: a failed attempt that starts a dwell sets the wait, STOPPED and
COAST entries while the dwell runs keep it, and with it no re-catch is due (R29, R36). The run demand (R18) is formed
again at the end of an event, in its place among what `settled` forms, twice (log 13): a rise is fresh, with the attempt
count 0 and no dwell, and starts a STOPPED motor, leaves COAST to a re-catch or to STOPPED, and aborts a probe; a fall
puts ALIGN, RAMP_OPEN, CAPTURE and RUN into COAST, the bridge off, no attempt counted, the dwell cancelled, and in any
other state cancels the dwell only. So an event that leaves the trigger RELEASED leaves a driven motor in COAST. -/
def Obligations.StoppingAndRetrying : Prop :=
  ∀ s : State, s.cause.present.length = 16 →
    (s.drive.motor = .coast → 12000 * 20 ≤ s.drive.quiet →
      ∃ t, exec .coastStop s = .next t ∧ t.drive.sM = 0 ∧ t.drive.sT = 0 ∧ t.bridge = none ∧
        t.cond .lostSync = false ∧
        (s.plan.trigger = false → s.drive.demand = false → t.drive.motor = .stopped) ∧
        t.acq = s.acq ∧ t.modem = s.modem ∧ t.pending = s.pending) ∧
    (s.drive.retry = some 0 →
      exec .retryDwell s = .next (({ s with drive := { s.drive with retry := none } }).startIfDue).settled) ∧
    (s.drive.motor = .stopped → s.drive.retry = none → s.drive.demand = true → s.runRequestNow = true →
      s.tripPresent = false →
      s.startIfDue.drive.motor = .align ∧ s.startIfDue.drive.step = 1 ∧ s.startIfDue.drive.duty = 0 ∧
      s.startIfDue.drive.stateTime = 0 ∧ s.startIfDue.drive.sM = 0 ∧ s.startIfDue.drive.sT = 0 ∧
      s.startIfDue.drive.attempts = s.drive.attempts ∧ s.startIfDue.charge = s.charge ∧
      (s.log.session = none → s.startIfDue.log.session = some (s.newSession .clean))) ∧
    (s.recatchDue = true ↔
      s.drive.motor = .coast ∧ s.drive.demand = true ∧ s.drive.retry = none ∧ s.drive.waitStop = false ∧
      s.handoverSpeed ≤ s.drive.sM) ∧
    (s.drive.retry ≠ none → s.enterStopped.drive.motor = .stopped ∧ s.enterStopped.drive.retry = s.drive.retry ∧
      s.enterStopped.drive.waitStop = s.drive.waitStop) ∧
    (s.enterCoast.drive.waitStop = s.drive.waitStop ∧ s.enterCoast.drive.retry = s.drive.retry) ∧
    (∀ n, s.failAttempt.drive.retry = some n → s.drive.retry = none → s.failAttempt.drive.waitStop = true) ∧
    s.settled = s.formAll.formAll ∧
    s.formAll = s.formKeep.formHold.choosePath.formRequest.formDemand.formCap.formIdle ∧
    (let up : Prop := s.plan.runReq = true ∧ 0 < s.plan.sReq
     let fresh : State := { s with drive := { s.drive with
       demand := true, attempts := 0, retry := none, waitStop := false } }
     let off : State := { s with drive := { s.drive with demand := false, retry := none } }
     ((up ↔ s.drive.demand = true) → s.formDemand = s) ∧
     (up → s.drive.demand = false →
       (s.drive.motor = .stopped → s.runRequestNow = true → s.tripPresent = false →
         s.formDemand = fresh.startSequence ∧ s.formDemand.drive.motor = .align) ∧
       (s.drive.motor = .coast →
         s.formDemand = fresh ∧ (s.formDemand.recatchDue = true ↔ s.handoverSpeed ≤ s.drive.sM)) ∧
       (s.drive.motor = .probe → s.formDemand = fresh.abortProbe .abortedTrigger)) ∧
     (¬ up → s.drive.demand = true →
       (s.drive.motor = .align ∨ s.drive.motor = .rampOpen ∨ s.drive.motor = .capture ∨ s.drive.motor = .run →
         s.formDemand = off.enterCoast ∧ s.formDemand.drive.motor = .coast ∧ s.formDemand.bridge = none ∧
         s.formDemand.drive.demand = false ∧ s.formDemand.drive.attempts = s.drive.attempts ∧
         s.formDemand.drive.retry = none) ∧
       (s.drive.motor = .coast ∨ s.drive.motor = .stopped ∨ s.drive.motor = .lockout ∨ s.drive.motor = .probe →
         s.formDemand = off))) ∧
    (s.plan.trigger = false → s.drive.demand = true →
      s.drive.motor = .align ∨ s.drive.motor = .rampOpen ∨ s.drive.motor = .capture ∨ s.drive.motor = .run →
      s.settled.drive.motor = .coast ∧ s.settled.bridge = none ∧ s.settled.drive.demand = false ∧
      s.settled.drive.attempts = s.drive.attempts ∧ s.settled.drive.retry = none)

/-- The ramp step of each millisecond (R37): in RUN S_t moves toward the goal by at most the ramp rate, or jumps to it
where the rate is 0, and is clamped to speed_max; outside RUN S_t stays. The tick runs on outside RUN and a late one
keeps its remainder (log 12). Nothing else changes but the tick's timer. Each fast frame's work of the drive unit (R26,
R39): L_m = min(B, I_max); current holding by foldback_step in ALIGN, RAMP_OPEN and CAPTURE, and at 8000 mA in a probe
pulse, while a rest leaves the duty where the pulse's end put it, at 0 (R42; O25); in RUN an IBUS above L_m folds the
duty back by foldback_step, not below duty_min, with the integrator and the hold following, and an IBUS within it
changes nothing (a duty above duty_min, which RUN keeps to: log 30). -/
def Obligations.RampAndCurrentHolding : Prop :=
  (∀ s : State, s.awake = true → 12000 ≤ s.drive.rampTime →
     (s.drive.motor = .run →
       exec .rampStep s = .next { s with drive := { s.drive with
         rampTime := s.drive.rampTime % 12000,
         sT := min s.speedMax
           (if s.drive.sT < s.rampGoal then
             (if s.rampUp = 0 then s.rampGoal else min s.rampGoal (s.drive.sT + s.rampUp))
            else if s.rampGoal < s.drive.sT then
             (if s.rampDown = 0 then s.rampGoal else max s.rampGoal (s.drive.sT - s.rampDown))
            else s.drive.sT) } }) ∧
     (s.drive.motor ≠ .run →
       exec .rampStep s = .next { s with drive := { s.drive with rampTime := s.drive.rampTime % 12000 } })) ∧
  (∀ (s : State) (ibus : Int),
     let held (target : Int) : Nat :=
       if ibus < target then min s.dutyMax (s.drive.duty + s.foldbackStep)
       else if target < ibus then s.drive.duty - s.foldbackStep else s.drive.duty
     let lM := min s.pack.budget s.iMax
     (s.drive.motor = .align ∨ s.drive.motor = .rampOpen ∨ s.drive.motor = .capture →
       s.driveFrame ibus = { s with drive := { s.drive with lM := lM, duty := held s.alignCurrent } }) ∧
     (∀ k, s.drive.motor = .probe → s.pack.probe = .pulse k →
       s.driveFrame ibus = { s with drive := { s.drive with lM := lM, duty := held 8000 } }) ∧
     (∀ k, s.drive.motor = .probe → s.pack.probe = .rest k →
       s.driveFrame ibus = { s with drive := { s.drive with lM := lM } }) ∧
     (s.drive.motor = .run → s.dutyMin ≤ s.drive.duty → (lM : Int) < ibus →
       s.driveFrame ibus = { s with drive := { s.drive with
         lM := lM, duty := max s.dutyMin (s.drive.duty - s.foldbackStep),
         integ := (((max s.dutyMin (s.drive.duty - s.foldbackStep) : Nat) : Int) - s.drive.pLast) * 65536,
         hold := some (max s.dutyMin (s.drive.duty - s.foldbackStep)), foldMark := true } }) ∧
     (s.drive.motor = .run → ibus ≤ (lM : Int) → s.driveFrame ibus = { s with drive := { s.drive with lM := lM } }) ∧
     (s.drive.motor = .stopped ∨ s.drive.motor = .coast ∨ s.drive.motor = .lockout →
       s.driveFrame ibus = { s with drive := { s.drive with lM := lM } }))

/-- The entry into COAST from RUN (R37, R40; 04 R79, R82), with no DRIVE image pending: S_t is 0 and the hold off, the
band index is 0 with both blockage times, BLOCKAGE has ended, and a band above 0 loads the thresholds of row 0 and
starts the 50 ms band blank. An OVERCURRENT onset, whose action is HOLD or TRIP, turns the bridge off in the event
(R41), and so does the setting of the trip latch from any state (R20): no driving state is left, and the path is not
DISCHARGE under the latch. -/
def Obligations.BridgeGoesOff : Prop :=
  (∀ s : State, s.drive.motor = .run → s.isPending .drive = false →
     s.enterCoast.drive.motor = .coast ∧ s.enterCoast.drive.sT = 0 ∧ s.enterCoast.drive.hold = none ∧
     s.enterCoast.drive.sM = s.drive.sM ∧ s.enterCoast.bridge = none ∧
     s.enterCoast.plan.band = 0 ∧ s.enterCoast.plan.lowTime = 0 ∧ s.enterCoast.plan.recTime = 0 ∧
     s.enterCoast.cond .blockage = false ∧
     (0 < s.plan.band → s.enterCoast.dirt.armA = s.bandField 0 1 ∧ s.enterCoast.dirt.relL = s.bandField 0 2 ∧
       s.enterCoast.dirt.bandBlank = some (12000 * 50)) ∧
     (s.plan.band = 0 → s.enterCoast.dirt = s.dirt) ∧
     s.enterCoast.acq = s.acq ∧ s.enterCoast.charge = s.charge ∧ s.enterCoast.pack = s.pack ∧
     s.enterCoast.tables = s.tables ∧ s.enterCoast.log = s.log) ∧
  (∀ s : State, s.cause.present.length = 16 →
     (∀ d, s.cond .overcurrent = false → s.actionOf .overcurrent = 2 ∨ s.actionOf .overcurrent = 3 →
       (s.raise .overcurrent d).bridge = none ∧ driving (s.raise .overcurrent d).drive.motor = false ∧
       (s.raise .overcurrent d).drive.retry = none ∧ (s.raise .overcurrent d).cond .overcurrent = true) ∧
     (s.cause.trip = false →
       s.setTrip.cause.trip = true ∧ s.setTrip.bridge = none ∧ driving s.setTrip.drive.motor = false ∧
       s.setTrip.drive.motor ≠ .lockout ∧ s.setTrip.drive.retry = none ∧ s.setTrip.charge.path = .opened ∧
       s.setTrip.acq = s.acq))

/-! ### Dirt sensing (03) -/

/-- A PZ sample (R45 to R49, R51): a blanked one is counted and discards an impact under way. Otherwise, in QUIET, a
value at or above A begins an impact; in an impact, a value at or above L makes the elapsed count its duration, one
below L is a tail sample, and the tail samples of the DIRT table end it: into the highest bin whose two bounds it
meets, or the rejected or continuous tally. -/
def Obligations.DetectorFollowsTheEnvelope : Prop :=
  ∀ (s : State) (value : Int),
    let pz := (max 0 (min 4095 value)).toNat
    let d := s.dirt.det
    let t := s.dirtSample value
    t.dirt.winSamples = s.dirt.winSamples + 1 ∧
    (s.drive.sT ≠ s.rampGoal ∨ s.dirt.bandBlank ≠ none →
      t.dirt.winBlanked = s.dirt.winBlanked + 1 ∧ t.dirt.det = Detector.quiet ∧ t.dirt.bins = s.dirt.bins) ∧
    (s.drive.sT = s.rampGoal → s.dirt.bandBlank = none →
      t.dirt.winBlanked = s.dirt.winBlanked ∧
      (d.state = .quiet → pz < s.dirt.armA → t.dirt.det = d) ∧
      (d.state = .quiet → s.dirt.armA ≤ pz →
        t.dirt.det = { state := .impact, elapsed := 1, peak := pz, duration := 1, tail := 0, cont := false }) ∧
      (d.state ≠ .quiet → s.dirt.relL ≤ pz →
        t.dirt.det = { state := .impact, elapsed := min 800 (d.elapsed + 1), peak := max d.peak pz,
                       duration := min 800 (d.elapsed + 1), tail := 0,
                       cont := d.cont || decide (800 ≤ min 800 (d.elapsed + 1)) }) ∧
      (d.state = .impact → pz < s.dirt.relL →
        t.dirt.det = { d with state := .tail, elapsed := min 800 (d.elapsed + 1), peak := max d.peak pz, tail := 1 }) ∧
      (d.state = .tail → pz < s.dirt.relL → d.tail + 1 < s.dirtField 0 →
        t.dirt.det = { d with elapsed := min 800 (d.elapsed + 1), peak := max d.peak pz, tail := d.tail + 1 }) ∧
      (d.state = .tail → pz < s.dirt.relL → s.dirtField 0 ≤ d.tail + 1 →
        t.dirt.det = Detector.quiet ∧
        (d.cont = true → t.dirt.contTally = min 65535 (s.dirt.contTally + 1) ∧ t.dirt.bins = s.dirt.bins) ∧
        (∀ b, d.cont = false → s.dirt.bins.length = 6 → 1 ≤ b → b ≤ 6 →
          s.binPeak b ≤ max d.peak pz → s.binDuration b ≤ d.duration →
          (∀ c, b < c → c ≤ 6 → max d.peak pz < s.binPeak c ∨ d.duration < s.binDuration c) →
          t.dirt.bins = s.dirt.bins.set (b - 1) (min 65535 (s.dirt.bins.getD (b - 1) 0 + 1))) ∧
        (d.cont = false → (∀ c, 1 ≤ c → c ≤ 6 → max d.peak pz < s.binPeak c ∨ d.duration < s.binDuration c) →
          t.dirt.rejected = min 65535 (s.dirt.rejected + 1) ∧ t.dirt.bins = s.dirt.bins))) ∧
    t.acq = s.acq ∧ t.drive = s.drive ∧ t.plan = s.plan ∧ t.pack = s.pack ∧ t.charge = s.charge ∧ t.log = s.log ∧
    t.cause = s.cause

/-- The close of a window (R55 to R58): the score is the weighted bin counts plus the optical term; more than half the
samples blanked leave level and fall-hold count; otherwise the highest threshold reached above the level raises it,
and a score below the level's fall threshold, often enough, lowers it by one. The closed window's record is replaced, and
its counts go to the totals of an open CLEAN session, each saturating at 65535, with the level to its peak (R59; 09 R160).
The next window begins with nothing counted and with a DIRT image that waited (R62). -/
def Obligations.WindowCloseScoresAndLevels : Prop :=
  ∀ s : State, s.windowDue = true →
    ∃ t, exec .windowClose s = .next t ∧
      (let optical : Nat :=
        if s.dirt.optCount = 0 then 0
        else ((max 0 (s.dirt.optSum / (s.dirt.optCount : Int) - s.dirtField 2)) * s.dirtField 3 / 256).toNat
       let score := s.binWeight 1 * s.dirt.bins.getD 0 0 + s.binWeight 2 * s.dirt.bins.getD 1 0 +
          s.binWeight 3 * s.dirt.bins.getD 2 0 + s.binWeight 4 * s.dirt.bins.getD 3 0 +
          s.binWeight 5 * s.dirt.bins.getD 4 0 + s.binWeight 6 * s.dirt.bins.getD 5 0 + optical
       let k := if s.dirtField 6 ≤ score then 3 else if s.dirtField 5 ≤ score then 2
          else if s.dirtField 4 ≤ score then 1 else 0
       let hold := s.dirt.fallHold
       t.dirt.lastWin.score = score ∧ t.dirt.lastWin.optTerm = optical ∧ t.dirt.lastWin.bins = s.dirt.bins ∧
       t.dirt.lastWin.rejected = s.dirt.rejected ∧ t.dirt.lastWin.cont = s.dirt.contTally ∧
       t.dirt.lastWin.blanked = decide (s.dirt.winSamples < 2 * s.dirt.winBlanked) ∧
       t.dirt.lastWin.level = t.dirt.level ∧ t.dirt.lastWin.fallHold = t.dirt.fallHold ∧
       t = (s.closeWindow.takeUp .dirt).settled ∧
       s.closeWindow = { s with
         dirt := { s.dirt with
           lastWin := t.dirt.lastWin, level := t.dirt.level, fallHold := t.dirt.fallHold, winSamples := 0,
           winBlanked := 0, bins := List.replicate 6 0, rejected := 0, contTally := 0, optSum := 0, optCount := 0 },
         log := { s.log with session := s.log.session.map fun a =>
           if a.kind = .clean then { a with
             bins := a.bins.zipWith (fun m n => min 65535 (m + n)) s.dirt.bins,
             rejected := min 65535 (a.rejected + s.dirt.rejected), cont := min 65535 (a.cont + s.dirt.contTally),
             peakLevel := max a.peakLevel t.dirt.level }
           else a } } ∧
       (t.dirt.level, t.dirt.fallHold) =
         (if s.dirt.winSamples < 2 * s.dirt.winBlanked then (s.dirt.level, hold)
          else if s.dirt.level < k then (k, 0)
          else if s.dirt.level = 0 then (0, hold)
          else if s.dirtField (6 + s.dirt.level) ≤ score then (s.dirt.level, 0)
          else if s.dirtField 10 ≤ hold + 1 then (s.dirt.level - 1, 0) else (s.dirt.level, hold + 1))) ∧
      (s.dirt.level ≤ 3 → t.dirt.level ≤ 3) ∧ s.dirt.level ≤ t.dirt.level + 1 ∧
      t.dirt.winSamples = 0 ∧ t.dirt.winBlanked = 0 ∧ t.dirt.bins = List.replicate 6 0 ∧ t.dirt.rejected = 0 ∧
      t.dirt.contTally = 0 ∧ t.dirt.optSum = 0 ∧ t.dirt.optCount = 0 ∧ t.dirt.det = s.dirt.det ∧
      t.tables.dirt = { s.tables.dirt with
        active := s.tables.dirt.waiting.getD s.tables.dirt.active, waiting := none } ∧
      t.acq = s.acq ∧ t.modem = s.modem ∧ t.pack.v = s.pack.v ∧
      t.charge.presence = s.charge.presence ∧ t.power.state = s.power.state ∧ t.pending = s.pending

/-! ### Suction planning (04) -/

/-- A change of a raw input restarts its 20 ms; a report of the level it already has changes nothing (R67, R68). The
debounced trigger changes 20 ms after its raw input (R67): a press wakes the part from SLEEP, aborts a probe and with
the button held starts the chord; a release ends LOCKOUT, the chord and the chord block. The debounced button (R68): a
press starts the press timer, marks a press that wakes the part, and with the trigger held starts the chord; a release
within 1000 ms of an unmarked press advances the mode, ECO to AUTO to BOOST to ECO, and raises MODE_CHANGED. A trigger
press in the dock raises DOCK_LOCK (R72). The chord's limit is 1000 ms where the press wakes the part or the sleep chord
mark is set, and 10,000 ms otherwise (11 R188). A press that wakes sets the mark to its own control, also over the other
control's (log 43). -/
def Obligations.OperatorInputs : Prop :=
  (∀ (s : State) (level : Bool),
     (s.plan.trigRaw ≠ level → exec (.rawInputChange .trigger level) s =
       .next { s with plan := { s.plan with trigRaw := level, trigTime := 0 } }) ∧
     (s.plan.btnRaw ≠ level → exec (.rawInputChange .button level) s =
       .next { s with plan := { s.plan with btnRaw := level, btnTime := 0 } }) ∧
     (s.plan.trigRaw = level → exec (.rawInputChange .trigger level) s = .next s) ∧
     (s.plan.btnRaw = level → exec (.rawInputChange .button level) s = .next s)) ∧
  (∀ s : State, s.live = true → 12000 * 20 ≤ s.plan.trigTime →
     (s.plan.trigRaw = true → s.plan.trigger = false →
       ∃ t, exec .triggerPress s = .next t ∧ t.plan.trigger = true ∧ t.power.state = .awake ∧
         t.plan.mode = s.plan.mode ∧ t.drive.motor ≠ .probe ∧
         (s.power.state = .sleep → t.power.settle = some 0 ∧ t.power.sleepChord = some .trigger ∧ t.acq.scanning = true) ∧
         (s.plan.button = true → s.power.chordBlock = false →
           t.power.chord =
             some (0, if s.power.state = .sleep ∨ s.power.sleepChord ≠ none then 1000 else 10000)) ∧
         (s.charge.presence = .present →
           ∃ x, x ∈ t.cause.records ∧ x.kind = .dockLock ∧ x.reported = false ∧ x.detail = 0) ∧
         t.acq.latest = s.acq.latest ∧ t.pack.v = s.pack.v ∧ t.frame.chSlot = s.frame.chSlot ∧ t.pending = s.pending) ∧
     (s.plan.trigRaw = false → s.plan.trigger = true →
       ∃ t, exec .triggerRelease s = .next t ∧ t.plan.trigger = false ∧ t.plan.runReq = false ∧
         t.drive.motor ≠ .lockout ∧ t.power.chord = none ∧ t.power.chordBlock = false ∧
         t.power.state = s.power.state ∧ t.plan.mode = s.plan.mode ∧ t.acq = s.acq ∧ t.modem = s.modem ∧
         t.pack.v = s.pack.v ∧ t.frame.chSlot = s.frame.chSlot ∧ t.pending = s.pending)) ∧
  (∀ s : State, s.live = true → 12000 * 20 ≤ s.plan.btnTime →
     (s.plan.btnRaw = true → s.plan.button = false →
       ∃ t, exec .buttonPress s = .next t ∧ t.plan.button = true ∧ t.plan.pressTimer = some 0 ∧
         t.plan.wakePress = decide (s.power.state = .sleep) ∧ t.power.state = .awake ∧ t.plan.mode = s.plan.mode ∧
         (s.power.state = .sleep → t.power.settle = some 0 ∧ t.power.sleepChord = some .button ∧ t.acq.scanning = true) ∧
         (s.plan.trigger = true → s.power.chordBlock = false →
           t.power.chord =
             some (0, if s.power.state = .sleep ∨ s.power.sleepChord ≠ none then 1000 else 10000)) ∧
         t.acq.latest = s.acq.latest ∧ t.pack.v = s.pack.v ∧ t.frame.chSlot = s.frame.chSlot ∧ t.pending = s.pending) ∧
     (s.plan.btnRaw = false → s.plan.button = true →
       ∃ t, exec .buttonRelease s = .next t ∧ t.plan.button = false ∧ t.plan.pressTimer = none ∧
         t.plan.wakePress = false ∧
         (∀ time, s.plan.pressTimer = some time →
           t.plan.mode = (if time ≤ 12000 * 1000 ∧ s.plan.wakePress = false then
             (match s.plan.mode with | .eco => Mode.auto | .auto => Mode.boost | .boost => Mode.eco)
           else s.plan.mode)) ∧
         (t.plan.mode ≠ s.plan.mode →
           ∃ x, x ∈ t.cause.records ∧ x.kind = .modeChanged ∧ x.reported = false ∧ x.detail = 0) ∧
         t.power.chord = none ∧ t.power.chordBlock = false ∧ t.acq = s.acq ∧ t.modem = s.modem ∧
         t.pack.v = s.pack.v ∧ t.frame.chSlot = s.frame.chSlot ∧ t.pending = s.pending))

/-- The run request (R71; held down by an accepted SHIP, 11 R186) and S_req (R75) as they are formed again: S_req is 0
with the run request down, and otherwise the SUCTION entry of the mode and the level, level 0 while BLOCKAGE is
present, its reserve speed in the reserve state, clamped to speed_max. What bears on them: the exhausted latch clears
with the trigger RELEASED and B at or above I_run_min + 1000 (R73). BLOCKAGE (R80 to R82), at a scan completion in RUN
with the ramp and the band blank idle, compares P = floor(VBUS x I_scan / 1,000,000) with the minimum of the band: below
it the low time grows by the scan duration and at the dwell BLOCKAGE begins; while present, P at or above
floor(minimum x 105 / 100) makes the recovery time grow and at the dwell BLOCKAGE ends; both times are then 0, and a scan
on the other side puts the time back to 0. A minimum of 0 turns the test off (R76), also for a negative P (log 44). -/
def Obligations.RunRequestAndSpeedFormed : Prop :=
  (∀ s : State,
    s.formRequest = { s with plan := { s.plan with
      runReq := s.formRequest.plan.runReq, sReq := s.formRequest.plan.sReq } } ∧
    (s.formRequest.plan.runReq = true ↔
      s.plan.trigger = true ∧ s.plan.permit = true ∧ s.charge.presence ≠ .present ∧ s.charge.path = .discharge ∧
      (∀ k, s.cond k = true → s.actionOf k ≠ 2) ∧ s.cause.trip = false ∧ s.power.state = .awake ∧
      s.power.settle = none ∧ s.drive.motor ≠ .lockout ∧ s.plan.exhausted = false ∧ s.power.shipPending = false) ∧
    (s.formRequest.plan.runReq = false → s.formRequest.plan.sReq = 0) ∧
    (s.formRequest.plan.runReq = true →
      s.formRequest.plan.sReq = min s.speedMax
        (fieldNat s.tables.suction.active
          ((match s.plan.mode with | .eco => 0 | .auto => 1 | .boost => 2) * 4 +
            (if s.cond .blockage = true then 0 else s.dirt.level))
          (if s.pack.reserve = true then 1 else 0)))) ∧
  (∀ s : State,
    (s.plan.trigger = false → s.packField 7 + 1000 ≤ (s.pack.budget : Int) →
      s.latchTest = { s with plan := { s.plan with exhausted := false } }) ∧
    (s.plan.trigger = true ∨ (s.pack.budget : Int) < s.packField 7 + 1000 → s.latchTest = s)) ∧
  (∀ (s : State) (x : ScanSet),
    let power : Int := x.vbus * x.iScan / 1000000
    let least := s.bandField s.plan.band 3
    let dwell := 1000 * s.bandField s.plan.band 4
    let low := s.plan.lowTime + x.durationUs
    let back := s.plan.recTime + x.durationUs
    (s.drive.motor ≠ .run ∨ s.drive.sT ≠ s.rampGoal ∨ s.dirt.bandBlank ≠ none → s.blockageScan x = s) ∧
    (s.drive.motor = .run → s.drive.sT = s.rampGoal → s.dirt.bandBlank = none →
      (s.cond .blockage = false →
        (least = 0 ∨ (least : Int) ≤ power →
          s.blockageScan x = { s with plan := { s.plan with lowTime := 0 } }) ∧
        (least ≠ 0 → power < least → low < dwell →
          s.blockageScan x = { s with plan := { s.plan with lowTime := low } }) ∧
        (least ≠ 0 → power < least → dwell ≤ low →
          s.blockageScan x =
            ({ s with plan := { s.plan with lowTime := 0, recTime := 0 } } : State).raise .blockage 0)) ∧
      (s.cond .blockage = true →
        (least ≠ 0 → power < (least * 105 / 100 : Nat) →
          s.blockageScan x = { s with plan := { s.plan with recTime := 0 } }) ∧
        (least = 0 ∨ (least * 105 / 100 : Nat) ≤ power → back < dwell →
          s.blockageScan x = { s with plan := { s.plan with recTime := back } }) ∧
        (least = 0 ∨ (least * 105 / 100 : Nat) ≤ power → dwell ≤ back →
          s.blockageScan x =
            ({ s with plan := { s.plan with lowTime := 0, recTime := 0 } } : State).endCond .blockage))))

/-! ### Pack monitoring (05) -/

/-- The power budget (R90 to R93). For each cell E_i = V_i + round(I_scan x R_i / 10000), H_i = E_i - V_floor, and L_i is
0 where H_i is 0 or below, otherwise floor(H_i x 10000 / R_i); L_cell is the smallest. L_temp is the limit of the last
row in use whose temperature is at or below T, else of row 0. B_raw is the smallest of L_cell, L_temp, I_abs_max and the
derate currents of the present conditions whose action is DERATE; B is the smaller of B_raw and the previous B plus
rise_step. After every reset B is 0. From one scan completion to the next, B rises by at most rise_step and stays within
I_abs_max of the PACK image in use. The tests made of the cells and of B: PACK_EMPTY at the third scan below V_cut, with
the empty anchor, and ended 200 mV above (R99); BUDGET_EXHAUSTED at the tenth scan of RUN with B below I_run_min, with
the exhausted latch, and ended 1000 mA above (R100; the motor state read is the model's choice, log 35); in SLEEP, SHIP
entry at the third scan below V_ship (R101). round is roundDiv (O24). -/
def Obligations.BudgetFormedAndBounded : Prop :=
  (∀ (s : State) (x : ScanSet), x.cells.length = 7 → s.pack.r.length = 7 →
     let volt (i : Nat) : Int := max 0 (min 5000 (x.cells.getD i 0))
     let res (i : Nat) : Int := s.pack.r.getD i 0
     let est (i : Nat) : Int := volt i + roundDiv (x.iScan * res i) 10000
     let head (i : Nat) : Int := est i - s.packField 0
     let limit (i : Nat) : Nat := if head i ≤ 0 then 0 else (head i * 10000 / res i).toNat
     let temp := max x.tp1 x.tp2
     let rowTemp (j : Nat) : Int := s.packField (12 + 2 * j)
     let rowLimit (j : Nat) : Nat := (s.packField (13 + 2 * j)).toNat
     let count := (s.packField 11).toNat
     let t := s.packBudget x
     (∀ i, i < 7 → t.pack.e.getD i 0 = est i ∧ t.pack.lCell ≤ limit i) ∧ (∃ i, i < 7 ∧ t.pack.lCell = limit i) ∧
     (∀ j, j < count → rowTemp j ≤ temp → (∀ k, j < k → k < count → temp < rowTemp k) →
       t.pack.lTemp = rowLimit j) ∧
     ((∀ k, k < count → temp < rowTemp k) → t.pack.lTemp = rowLimit 0)) ∧
  (∀ (s : State) (x : ScanSet),
     (∀ k, (s.takeReset k).pack.budget = 0) ∧
     ∃ raw : Nat,
       (s.packBudget x).pack.budget = min raw (s.pack.budget + (s.packField 8).toNat) ∧
       raw ≤ (s.packBudget x).pack.lCell ∧ raw ≤ (s.packBudget x).pack.lTemp ∧ raw ≤ (s.packField 6).toNat ∧
       (∀ k, s.cond k = true → s.actionOf k = 1 → raw ≤ s.derateOf k) ∧
       (raw = (s.packBudget x).pack.lCell ∨ raw = (s.packBudget x).pack.lTemp ∨ raw = (s.packField 6).toNat ∨
         ∃ k, s.cond k = true ∧ s.actionOf k = 1 ∧ raw = s.derateOf k) ∧
       s.packBudget x = { s with pack := { s.pack with
         e := (s.packBudget x).pack.e, lCell := (s.packBudget x).pack.lCell, lTemp := (s.packBudget x).pack.lTemp,
         budget := (s.packBudget x).pack.budget } }) ∧
  (∀ s : State, s.completionDue = true →
     ∃ t, exec .scanCompletion s = .next t ∧
       t.pack.budget ≤ s.pack.budget + (t.packField 8).toNat ∧ t.pack.budget ≤ (t.packField 6).toNat) ∧
  (∀ (s : State) (x : ScanSet),
     let low : Int := minNat x.volts
     let counted (n : Nat) : State := { s with pack := { s.pack with emptyCount := n } }
     (s.charge.presence = .present ∨ true ∈ x.cellSat → s.packEmptyTest x = s) ∧
     (s.charge.presence ≠ .present → true ∉ x.cellSat →
       (s.cond .packEmpty = false → s.packField 1 ≤ low → s.packEmptyTest x = counted 0) ∧
       (s.cond .packEmpty = false → low < s.packField 1 → s.pack.emptyCount < 2 →
         s.packEmptyTest x = counted (s.pack.emptyCount + 1)) ∧
       (s.cond .packEmpty = false → low < s.packField 1 → 2 ≤ s.pack.emptyCount →
         s.packEmptyTest x = ((counted 3).raise .packEmpty 0).emptyAnchor) ∧
       (s.cond .packEmpty = true → low < s.packField 1 + 200 → s.packEmptyTest x = s) ∧
       (s.cond .packEmpty = true → s.packField 1 + 200 ≤ low →
         (let ended := s.endCond .packEmpty
          s.packEmptyTest x = { ended with pack := { s.pack with emptyCount := 0 } }) ∧
         (s.packEmptyTest x).cond .packEmpty = false))) ∧
  (∀ s : State,
     let b : Int := s.pack.budget
     let counted (n : Nat) : State := { s with pack := { s.pack with exhCount := n } }
     let onset := (counted 0).raise .budgetExhausted 0
     (s.cond .budgetExhausted = false → s.drive.motor ≠ .run ∨ s.packField 7 ≤ b → s.packExhaustTest = counted 0) ∧
     (s.cond .budgetExhausted = false → s.drive.motor = .run → b < s.packField 7 → s.pack.exhCount + 1 < 10 →
       s.packExhaustTest = counted (s.pack.exhCount + 1)) ∧
     (s.cond .budgetExhausted = false → s.drive.motor = .run → b < s.packField 7 → 10 ≤ s.pack.exhCount + 1 →
       s.packExhaustTest = { onset with plan := { onset.plan with exhausted := true } }) ∧
     (s.cond .budgetExhausted = true → b < s.packField 7 + 1000 → s.packExhaustTest = s) ∧
     (s.cond .budgetExhausted = true → s.packField 7 + 1000 ≤ b →
       s.packExhaustTest = s.endCond .budgetExhausted ∧ (s.packExhaustTest).cond .budgetExhausted = false)) ∧
  (∀ (s : State) (x : ScanSet),
     let low : Int := minNat x.volts
     let counted (n : Nat) : State := { s with pack := { s.pack with shipCount := n } }
     (s.power.state ≠ .sleep ∨ true ∈ x.cellSat → s.packShipTest x = s) ∧
     (s.power.state = .sleep → true ∉ x.cellSat →
       (s.packField 2 ≤ low → s.packShipTest x = counted 0) ∧
       (low < s.packField 2 → s.pack.shipCount + 1 < 3 → s.packShipTest x = counted (s.pack.shipCount + 1)) ∧
       (low < s.packField 2 → 3 ≤ s.pack.shipCount + 1 →
         s.packShipTest x = (counted (s.pack.shipCount + 1)).enterShip)))

/-- round is halves away from zero, the lowest and the highest of some cells are what they say, and clamping keeps
within two bounds (00 section 4.2). The pack monitor's work at a scan completion in its order (R88); a PACK image that
waits is taken up first, with R_i, Q_full and Q brought within it, and SoC and reserve formed where Q_full moves (R87,
R98). The resistance estimate (R89): with a previous scan, no probe, none ended since the completion before (skipEst,
skipNow: log 17), and at least 2000 mA of change, each cell without a saturation mark in either scan has R_meas =
round((V_prev_i - V_i) x 10000 / (I_scan - I_prev)) and moves by round((R_meas - R_i) / 8) where R_meas lies within
R_lo..R_hi, and otherwise keeps R_i with a discard counted; without these nothing changes. The charge count (R94): Q
moves by the scan's charge and is clamped to 0..Q_full; the session charge moves with it in an open charge session;
discharge above 200 mA clears the empty mark. The rest estimate (R95), with Q unknown, at most 200 mA and no mark: Q =
floor(Q_full x pct / 100), pct by the OCV points from the lowest V_i. SoC = floor(Q x 100 / Q_full), 255 with Q
unknown; reserve goes on at reserve_pct and off 3 points above (R98). The anchors (R96, R97): the empty one makes Q 0
and sets the empty mark; the full one makes Q Q_full and clears it, first learning Q_full from the session charge,
within 50 to 110 % of Q_design, where the mark stood at the session's opening and still does. -/
def Obligations.ScanMovesResistanceAndCharge : Prop :=
  (∀ n d : Int, d ≠ 0 →
     2 * (n - d * roundDiv n d).natAbs ≤ d.natAbs ∧
     (2 * (n - d * roundDiv n d).natAbs = d.natAbs → n.natAbs < (d * roundDiv n d).natAbs)) ∧
  (∀ l : List Nat, l ≠ [] → minNat l ∈ l ∧ maxNat l ∈ l ∧ ∀ y, y ∈ l → minNat l ≤ y ∧ y ≤ maxNat l) ∧
  (∀ lo hi v : Int, lo ≤ hi → clampInt lo hi v = max lo (min hi v)) ∧
  (∀ (s : State) (x : ScanSet),
     let taken := s.packTable
     let volts : State := { taken with pack := { taken.pack with
       v := x.cells.map fun v => (max 0 (min 5000 v)).toNat } }
     let formed := (((volts.packResistance x).packCharge x).packRest x).formSoc
     let tested := ((formed.packBudget x).packEmptyTest x).packExhaustTest
     s.packScan x = (tested.packKeep x).packShipTest x ∧
     (s.packKeep x).pack.prev =
       some { i := x.iScan, v := x.cells.map fun v => (max 0 (min 5000 v)).toNat, sat := x.cellSat }) ∧
  (∀ s : State,
     let t := s.packTable
     let learned (pct : Int) : Int := t.packField 10 * pct / 100 * 3600000
     (∀ img, s.tables.pack.waiting = some img →
       t.tables = s.tables.put .pack { s.tables.pack with active := img, waiting := none } ∧
       ∃ x, x ∈ t.cause.records ∧ x.kind = .tableActivated ∧ x.reported = false ∧ x.detail = 6) ∧
     (s.tables.pack.waiting = none → t.tables = s.tables ∧ t.cause = s.cause) ∧
     (s.tables.pack.waiting = none → s.pack.clampDue = false → t = s) ∧
     (s.tables.pack.waiting ≠ none ∨ s.pack.clampDue = true →
       t.pack.r = s.pack.r.map (clampInt (t.packField 4) (t.packField 5)) ∧
       t.pack.qFull = clampInt (learned 50) (learned 110) s.pack.qFull ∧
       t.pack.q = s.pack.q.map (clampInt 0 t.pack.qFull) ∧
       t.pack.emptyCount = s.pack.emptyCount ∧ t.pack.exhCount = s.pack.exhCount ∧
       t.pack.shipCount = s.pack.shipCount ∧ t.pack.budget = s.pack.budget ∧
       (t.pack.qFull = s.pack.qFull → t.pack.soc = s.pack.soc ∧ t.pack.reserve = s.pack.reserve) ∧
       (t.pack.qFull ≠ s.pack.qFull → t.pack.soc = t.formSoc.pack.soc ∧
         t.pack.reserve = ({ t with pack := { t.pack with reserve := s.pack.reserve } } : State).formSoc.pack.reserve) ∧
       t.acq = s.acq ∧ t.drive = s.drive ∧ t.charge = s.charge)) ∧
  (∀ (s : State) (x : ScanSet) (p : ScanPoint), s.pack.prev = some p →
     let now (i : Nat) : Int := max 0 (min 5000 (x.cells.getD i 0))
     let figure (i : Nat) : Int := roundDiv (((p.v.getD i 0 : Int) - now i) * 10000) (x.iScan - p.i)
     let out (i : Nat) : Prop := p.sat.getD i false = true ∨ x.cellSat.getD i false = true
     let fits (i : Nat) : Prop := s.packField 4 ≤ figure i ∧ figure i ≤ s.packField 5
     (s.pack.probe = .idle → s.pack.skipEst = false → s.pack.skipNow = false → 2000 ≤ (x.iScan - p.i).natAbs →
       (∀ i, i < s.pack.r.length →
         (out i → (s.packResistance x).pack.r.getD i 0 = s.pack.r.getD i 0) ∧
         (¬ out i → fits i → (s.packResistance x).pack.r.getD i 0 =
           s.pack.r.getD i 0 + roundDiv (figure i - s.pack.r.getD i 0) 8) ∧
         (¬ out i → ¬ fits i → (s.packResistance x).pack.r.getD i 0 = s.pack.r.getD i 0)) ∧
       (s.packResistance x).pack.discards = min 65535 (s.pack.discards +
         (List.range 7).countP fun i =>
           !(p.sat.getD i false || x.cellSat.getD i false) &&
           decide (figure i < s.packField 4 ∨ s.packField 5 < figure i)) ∧
       s.packResistance x = { s with pack := { s.pack with
         r := (s.packResistance x).pack.r, discards := (s.packResistance x).pack.discards } }) ∧
     (s.pack.probe ≠ .idle ∨ s.pack.skipEst = true ∨ s.pack.skipNow = true ∨ (x.iScan - p.i).natAbs < 2000 →
       s.packResistance x = s)) ∧
  (∀ (s : State) (x : ScanSet), s.pack.prev = none → s.packResistance x = s) ∧
  (∀ (s : State) (x : ScanSet),
     let c := roundDiv (x.iScan * (if x.asleep then (1000000 : Nat) else x.durationUs)) 1000
     s.packCharge x = { s with
       pack := { s.pack with
         q := s.pack.q.map (fun q => clampInt 0 s.pack.qFull (q - c)),
         sessCharge := if s.charge.session = none then s.pack.sessCharge else s.pack.sessCharge - c,
         emptyMark := s.pack.emptyMark && !decide (200 < x.iScan) },
       log := { s.log with session := s.log.session.map fun a => { a with chargeSum := a.chargeSum + c } } }) ∧
  (∀ (s : State) (x : ScanSet),
     let volt (j : Nat) : Int := s.packField (24 + 2 * j)
     let soc (j : Nat) : Int := s.packField (25 + 2 * j)
     let v : Int := minNat x.volts
     (s.pack.q ≠ none ∨ 200 < x.iScan.natAbs ∨ true ∈ x.cellSat → s.packRest x = s) ∧
     (s.pack.q = none → x.iScan.natAbs ≤ 200 → true ∉ x.cellSat → (∀ j, j < 5 → volt j < volt (j + 1)) →
       ∃ pct : Int, s.packRest x = { s with pack := { s.pack with q := some (s.pack.qFull * pct / 100) } } ∧
         (v < volt 0 → pct = 0) ∧ (volt 5 < v → pct = 100) ∧
         (∀ j, j < 5 → volt j ≤ v → v ≤ volt (j + 1) →
           pct = soc j + (v - volt j) * (soc (j + 1) - soc j) / (volt (j + 1) - volt j)))) ∧
  (∀ s : State,
     let pct := (s.packField 9).toNat
     let t := s.formSoc
     t = { s with pack := { s.pack with soc := t.pack.soc, reserve := t.pack.reserve } } ∧
     (s.pack.q = none → t.pack.soc = 255 ∧ t.pack.reserve = false) ∧
     (∀ q, s.pack.q = some q → t.pack.soc = (q * 100 / s.pack.qFull).toNat) ∧
     (t.pack.soc ≠ 255 →
       t.pack.reserve = if s.pack.reserve then decide (t.pack.soc < pct + 3) else decide (t.pack.soc ≤ pct))) ∧
  (∀ s : State,
     let bound (pct : Int) : Int := s.packField 10 * pct / 100 * 3600000
     let learns := s.pack.emptyAtOpen && s.pack.emptyMark
     let qFull := if learns then clampInt (bound 50) (bound 110) s.pack.sessCharge else s.pack.qFull
     s.emptyAnchor = ({ s with pack := { s.pack with q := some 0, emptyMark := true } } : State).formSoc ∧
     s.fullAnchor = ({ s with
       pack := { s.pack with qFull := qFull, q := some qFull, emptyMark := false },
       log := { s.log with session :=
         if learns then s.log.session.map (fun a => { a with learned := some (qFull / 3600000).toNat })
         else s.log.session } } : State).formSoc)

/-- The ends of a probe's intervals (R103, R105): a pulse of 100 ms gives its figures and a rest; a rest of 200 ms the
next pulse from duty 0; the third rest ends the probe DONE. One that ends late begins the next from 0 (log 33). A scan
set (R103) is "before" in a rest, each replacing the one kept, and "inside" in a pulse if its scan began in that pulse.
The figures of a pulse (R104): none without an "inside" scan
or below 2000 mA of change, none for a cell marked in either scan, otherwise round(dV x 10000 / dI). A cell with three
figures whose mean round(sum / 3) lies within R_lo..R_hi takes it; any other keeps R_i and is flagged. The end of a probe
(R105, R106) leaves the motor out of PROBE and the probe IDLE with no figures, the result with its flagged cells, the
resistance step suspended (skipEst, log 17), R_i as it stands, and PROBE_DONE raised with the code and the flagged set.
The aborts: a fresh run demand ends it ABORTED_TRIGGER, dock presence ABORTED_DOCK, a HOLD coming into force, an
OVERCURRENT onset or the trip latch ABORTED_FAULT, a trigger press ABORTED_TRIGGER; with no probe they act on none. -/
def Obligations.ProbeIntervalsEnd : Prop :=
  (∀ (s : State) (k : Nat),
    let fig : List (Option Int) :=
      match s.pack.before, s.pack.inside with
      | some a, some b =>
        if b.i - a.i < 2000 then List.replicate 7 none
        else (List.range 7).map fun i =>
          if a.sat.getD i false = true ∨ b.sat.getD i false = true then none
          else some (roundDiv (((a.v.getD i 0 : Int) - b.v.getD i 0) * 10000) (b.i - a.i))
      | _, _ => List.replicate 7 none
    (s.pack.probe = .pulse k → 12000 * 100 ≤ s.pack.probeTime →
      exec .probeIntervalEnd s = .next { s with
        drive := { s.drive with duty := 0 },
        pack := { s.pack with
          probe := .rest k, probeTime := 0, figures := s.pack.figures ++ [fig], before := none, inside := none } }) ∧
    (s.pack.probe = .rest k → k < 3 → 12000 * 200 ≤ s.pack.probeTime →
      exec .probeIntervalEnd s = .next { s with
        drive := { s.drive with duty := 0 },
        pack := { s.pack with probe := .pulse (k + 1), probeTime := 0, inside := none },
        acq := { s.acq with
          scanInPulse := decide (s.acq.scanTime = 0 ∧ s.acq.slotIndex = 0 ∧ s.acq.slotFrames = 0) } }) ∧
    (s.pack.probe = .rest k → 3 ≤ k → 12000 * 200 ≤ s.pack.probeTime → s.drive.motor = .probe →
      ∃ (t : State) (r : List Int) (flagged : List Bool), exec .probeIntervalEnd s = .next t ∧
        t = (({ s with pack := { s.pack with r := r } } : State).endProbe .done flagged).settled ∧
        t.pack.probe = .idle ∧ t.pack.lastProbe = some { result := .done, flagged := flagged } ∧ t.pack.r = r ∧
        r.length = s.pack.r.length ∧ flagged.length = 7 ∧
        (∀ i, i < r.length → i < 7 →
          (∀ a b c, s.pack.figures.map (fun f => f.getD i none) = [some a, some b, some c] →
            (s.packField 4 ≤ roundDiv (a + b + c) 3 → roundDiv (a + b + c) 3 ≤ s.packField 5 →
              r.getD i 0 = roundDiv (a + b + c) 3 ∧ flagged.getD i true = false) ∧
            (roundDiv (a + b + c) 3 < s.packField 4 ∨ s.packField 5 < roundDiv (a + b + c) 3 →
              r.getD i 0 = s.pack.r.getD i 0 ∧ flagged.getD i false = true)) ∧
          ((∀ a b c, s.pack.figures.map (fun f => f.getD i none) ≠ [some a, some b, some c]) →
            r.getD i 0 = s.pack.r.getD i 0 ∧ flagged.getD i false = true)) ∧
        (∃ x, x ∈ t.cause.records ∧ x.kind = .probeDone ∧ x.reported = false) ∧
        t.drive.motor ≠ .probe ∧ t.acq = s.acq ∧ t.modem = s.modem ∧ t.pack.v = s.pack.v ∧ t.pending = s.pending)) ∧
  (∀ (s : State) (why : ProbeResult) (flagged : List Bool), s.drive.motor = .probe →
    let t := s.endProbe why flagged
    t.drive.motor ≠ .probe ∧ t.pack.probe = .idle ∧ t.pack.figures = [] ∧ t.pack.before = none ∧
    t.pack.inside = none ∧ t.pack.lastProbe = some { result := why, flagged := flagged } ∧ t.pack.skipEst = true ∧
    t.pack.r = s.pack.r ∧ t.bridge = none ∧
    (∃ x, x ∈ t.cause.records ∧ x.kind = .probeDone ∧ x.reported = false ∧
      x.detail = (match why with | .done => 0 | .abortedTrigger => 1 | .abortedDock => 2 | .abortedFault => 3) ∧
      x.detail2 = bitmap flagged) ∧
    (s.abortProbe why = s.endProbe why (List.replicate 7 false))) ∧
  (∀ s : State,
    (s.drive.motor ≠ .probe → ∀ why, s.abortProbe why = s) ∧
    (s.drive.motor = .probe →
      s.freshDemand = ({ s with drive := { s.drive with
        demand := true, attempts := 0, retry := none, waitStop := false } } : State).abortProbe .abortedTrigger) ∧
    s.packAtDock = ((s.endCond .packEmpty).withEmptyCount 0).abortProbe .abortedDock ∧
    (s.holdNow = true → s.cause.hold = false →
      s.formHold = ({ s with cause := { s.cause with hold := true } } : State).abortProbe .abortedFault) ∧
    (s.drive.motor = .probe →
      s.overcurrentOff = (s.abortProbe .abortedFault).cancelRetry ∧
      (s.cause.trip = false →
        s.setTrip.pack.lastProbe = some { result := .abortedFault, flagged := List.replicate 7 false } ∧
        s.setTrip.pack.probe = .idle ∧ s.setTrip.pack.r = s.pack.r ∧ s.setTrip.pack.skipEst = true ∧
        s.setTrip.drive.motor ≠ .probe)) ∧
    (s.live = true → s.plan.trigRaw = true → s.plan.trigger = false → 12000 * 20 ≤ s.plan.trigTime →
      s.drive.motor = .probe →
      ∃ t, exec .triggerPress s = .next t ∧ t.pack.probe = .idle ∧ t.pack.r = s.pack.r ∧
        t.pack.lastProbe = some { result := .abortedTrigger, flagged := List.replicate 7 false } ∧
        t.drive.motor ≠ .probe)) ∧
  (∀ (s : State) (x : ScanSet),
    let point : ScanPoint :=
      { i := x.iScan, v := x.cells.map fun v => (max 0 (min 5000 v)).toNat, sat := x.cellSat }
    let now : Pack := { s.pack with prev := some point }
    (∀ k, s.pack.probe = .rest k → s.packKeep x = { s with pack := { now with before := some point } }) ∧
    (∀ k, s.pack.probe = .pulse k →
      (s.acq.scanInPulse = true → s.packKeep x = { s with pack := { now with inside := some point } }) ∧
      (s.acq.scanInPulse = false → s.packKeep x = { s with pack := now })) ∧
    (s.pack.probe = .idle → s.packKeep x = { s with pack := now }))

/-! ### Charging and the pack path (06) -/

/-- The end of the OPEN dwell (R112): with the trip latch clear in AWAKE, presence ABSENT leads to DISCHARGE, presence
PRESENT with a dock record to CHARGE with a session in phase 0, and anything else leaves the path OPEN. The opening
(R120; 09 R162): session charge, bleed time and highest phase 0, the empty mark noted (05 R97), and a CHARGE log session
with the time now, the SoC as start SoC and charge sum 0; where phase 0 is no done phase and the run demand is down, no
cause seen and no learned capacity. The choice is made again at every later event (R112), as a part of `settled` (O16):
an OPEN path whose dwell has ended is left by the same table, so at a DOCK HELLO, at a CLEAR TRIP and where presence is
decided; any other path, and one in its dwell, stays. In DISCHARGE (R110) a motor that enters STOPPED with the dock
PRESENT opens the path, with its dwell at 5 ms; without the dock the path stays. -/
def Obligations.OpenDwellChoosesThePath : Prop :=
  (∀ s : State, s.charge.dwell = some 0 → s.charge.path = .opened →
    ∃ t, exec .openDwell s = .next t ∧
      (s.power.state = .awake → s.cause.trip = false → s.charge.presence = .absent → t.charge.path = .discharge) ∧
      (s.power.state = .awake → s.cause.trip = false → s.charge.presence = .present → s.charge.dock ≠ none →
        s.drive.motor ≠ .probe →
        t.charge.path = .charge ∧ t.charge.session = some { faulted := false, phase := 0 } ∧
        t.charge.phaseTime = 0 ∧ t.charge.demand = 0 ∧ t.charge.highest = 0 ∧ t.charge.bleedTime = 0 ∧
        t.pack.sessCharge = 0 ∧ t.pack.emptyAtOpen = s.pack.emptyMark ∧
        ∃ a, t.log.session = some a ∧ a.kind = .charge ∧ a.openMs = s.clockMs ∧ a.startSoc = s.pack.soc ∧
          a.chargeSum = 0 ∧
          (s.phaseField 0 2 / 2 % 2 = 0 → s.drive.demand = false → a.causes = [] ∧ a.learned = none)) ∧
      (s.power.state ≠ .awake ∨ s.cause.trip = true ∨ s.charge.presence = .undecided ∨
          (s.charge.presence = .present ∧ s.charge.dock = none) →
        t.charge.path = .opened ∧ t.charge.dwell = none) ∧
      t.charge.presence = s.charge.presence ∧ t.charge.dock = s.charge.dock ∧ t.acq = s.acq ∧ t.modem = s.modem ∧
      t.pending = s.pending) ∧
  (∀ s : State,
    let free : Prop := s.charge.path = .opened ∧ s.charge.dwell = none
    let may : Prop := s.power.state = .awake ∧ s.cause.trip = false
    let docked : Prop := s.charge.presence = .present ∧ s.charge.dock ≠ none
    (free → may → s.charge.presence = .absent →
      s.choosePath = { s with charge := { s.charge with path := .discharge } } ∧
      s.settled.charge.path = .discharge) ∧
    (free → may → docked →
      s.choosePath.charge.path = .charge ∧ s.choosePath.charge.session = some { faulted := false, phase := 0 } ∧
      s.choosePath.drive = s.drive ∧
      (s.drive.motor ≠ .probe →
        s.settled.charge.path = .charge ∧ s.settled.charge.session = some { faulted := false, phase := 0 })) ∧
    (free → ¬ may ∨ s.charge.presence = .undecided ∨ (s.charge.presence = .present ∧ s.charge.dock = none) →
      s.choosePath = s ∧ s.settled.charge.path = .opened ∧ s.settled.charge.dwell = none) ∧
    (¬ free → s.choosePath = s) ∧
    (∀ x : ScanSet, free → may → (s.presenceScan x).charge.presence = .absent →
      (s.presenceScan x).settled.charge.path = .discharge) ∧
    (∀ (o : Origin) (r : Request) (a b c d e : Byte), s.takes o r 0x70 → r.body = [a, b, c, d, e] → free → may →
      s.charge.presence = .present → s.drive.motor ≠ .probe →
      ∃ t, exec .dockHello s = .next t ∧ t.charge.path = .charge ∧
        t.charge.session = some { faulted := false, phase := 0 }) ∧
    (∀ (o : Origin) (r : Request), s.takes o r 0x31 → free → (∀ k, s.cond k = true → s.actionOf k ≠ 3) →
      ∃ t, exec .clearTrip s = .next t ∧ (s.charge.presence = .absent → t.charge.path = .discharge) ∧
        (docked → s.drive.motor ≠ .probe → t.charge.path = .charge)) ∧
    (s.charge.path = .discharge → s.charge.presence = .present →
      s.restStopped.charge = { s.charge with path := .opened, dwell := some (12000 * 5) } ∧
      (s.drive.motor = .coast → 12000 * 20 ≤ s.drive.quiet →
        ∃ t, exec .coastStop s = .next t ∧ t.charge.path = .opened ∧ t.charge.dwell = some (12000 * 5) ∧
          t.drive.motor = .stopped)) ∧
    (s.charge.path ≠ .discharge ∨ s.charge.presence ≠ .present → s.restStopped.charge = s.charge))

/-- Dock presence at a scan completion (R113): outside PRESENT the high time grows by t_scan with VDOCK at or above
20,000 mV and else goes to 0, and at 100,000 us presence begins; outside ABSENT the low time grows below 15,000 mV and
else goes to 0, and at 20,000 us presence is ABSENT; at a change both times are 0. Its onset (R114): DOCKED, the HELLO
wait at 2000 ms, no mismatch run, LOCKOUT, a PACK_EMPTY and a probe ended, the part awake, the CLEAN session closed
DOCKED, a SHIP entry called off, the path open from DISCHARGE with the motor STOPPED, and the run request down. Its end
(R114; 10 R178): UNDOCKED, no dock record, wait, silence time or run, DOCK_SILENT, CHARGE_TIMEOUT and CHARGE_MISMATCH
ended, the path OPEN from CHARGE; a CHARGE staging image of the dock becomes the active one again and is released, one of
the chassis stays, and an image that waits is taken up at the session's close. Dock silence (R116): the end of the HELLO
wait, and 1000 ms without a dock frame, raise DOCK_SILENT. Dock link lost (R111, R116; 10 R178): after 5000 ms of silence
the dock record is gone, a charging path opens and its session closes, the HELLO wait starts at 2000 ms, and the CHARGE
staging image is treated as at the end of presence. -/
def Obligations.DockSilenceAndLinkLoss : Prop :=
  (∀ (s : State) (x : ScanSet),
     let span := if x.asleep then 1000000 else x.durationUs
     let high := if s.charge.presence ≠ .present ∧ 20000 ≤ x.vdock then s.charge.highTime + span else 0
     let low := if s.charge.presence ≠ .absent ∧ x.vdock < 15000 then s.charge.lowTime + span else 0
     (100000 ≤ high → s.presenceScan x = s.becomePresent) ∧
     (high < 100000 → 20000 ≤ low → s.charge.presence = .present → s.presenceScan x = s.becomeAbsent) ∧
     (high < 100000 → 20000 ≤ low → s.charge.presence ≠ .present →
       s.presenceScan x = { s with charge := { s.charge with presence := .absent, highTime := 0, lowTime := 0 } }) ∧
     (high < 100000 → low < 20000 →
       s.presenceScan x = { s with charge := { s.charge with highTime := high, lowTime := low } })) ∧
  (∀ s : State,
     let t := s.becomePresent
     t.charge.presence = .present ∧ t.charge.highTime = 0 ∧ t.charge.lowTime = 0 ∧
     t.charge.helloWait = some (12000 * 2000) ∧ t.charge.mismatch = .none ∧ t.charge.dock = s.charge.dock ∧
     t.drive.motor ≠ .lockout ∧ t.drive.motor ≠ .probe ∧ t.cond .packEmpty = false ∧ t.pack.emptyCount = 0 ∧
     (s.drive.motor = .probe →
       t.pack.lastProbe = some { result := .abortedDock, flagged := List.replicate 7 false }) ∧
     t.power.state ≠ .sleep ∧ t.power.shipPending = false ∧
     (∀ a, t.log.session = some a → a.kind ≠ .clean) ∧
     (∀ a, s.log.session = some a → a.kind = .clean →
       ∃ x, x ∈ t.log.ring ∧ x.seq = s.log.nextSeq ∧ x.kind = .clean ∧ x.reason = .docked) ∧
     (∃ x, x ∈ t.cause.records ∧ x.kind = .docked ∧ x.reported = false) ∧
     (t.drive.motor = .stopped → t.charge.path ≠ .discharge) ∧ t.settled.plan.runReq = false) ∧
  (∀ s : State,
     let t := s.becomeAbsent
     t.charge.presence = .absent ∧ t.charge.highTime = 0 ∧ t.charge.lowTime = 0 ∧ t.charge.helloWait = none ∧
     t.charge.mismatch = .none ∧ t.charge.dock = none ∧ t.charge.silence = none ∧ t.charge.report = none ∧
     t.cond .dockSilent = false ∧ t.cond .chargeTimeout = false ∧ t.cond .chargeMismatch = false ∧
     t.charge.path = (if s.charge.path = .charge then .opened else s.charge.path) ∧
     (s.charge.path = .charge → t.charge.session = none ∧ t.charge.demand = 0 ∧
       t.charge.bleed = List.replicate 7 false ∧ t.charge.dwell = some (12000 * 5)) ∧
     (∃ x, x ∈ t.cause.records ∧ x.kind = .undocked ∧ x.reported = false) ∧
     (let x := s.tables.charge
      let kept : TableSlot := if x.owner = some .dock then { x with staging := x.active, owner := none } else x
      t.tables = s.tables.put .charge (if s.charge.path = .charge then
        { kept with active := x.waiting.getD x.active, waiting := none } else kept)) ∧
     t.acq = s.acq ∧ t.drive = s.drive ∧ t.modem = s.modem ∧ t.power = s.power) ∧
  (∀ s : State, s.awake = true → s.cause.present.length = 16 →
     (s.charge.helloWait = some 0 →
       ∃ t, exec .helloWait s = .next t ∧ t.cond .dockSilent = true ∧ t.charge.helloWait = none ∧
         t.charge.dock = s.charge.dock ∧ t.charge.presence = s.charge.presence ∧ t.acq = s.acq ∧ t.modem = s.modem ∧
         t.pending = s.pending) ∧
     (∀ time, s.charge.silence = some time → 12000 * 1000 ≤ time →
       ∃ t, exec .silenceTime s = .next t ∧ t.cond .dockSilent = true ∧ t.charge.silence = s.charge.silence ∧
         t.charge.dock = s.charge.dock ∧ t.charge.presence = s.charge.presence ∧ t.acq = s.acq ∧ t.modem = s.modem ∧
         t.pending = s.pending)) ∧
  (∀ (s : State) (time : Nat), s.awake = true → s.charge.silence = some time → 12000 * 5000 ≤ time →
     ∃ t, exec .dockLinkLost s = .next t ∧ t.charge.dock = none ∧ t.charge.silence = none ∧
       t.charge.helloWait = some (12000 * 2000) ∧ t.charge.report = none ∧ t.charge.path ≠ .charge ∧
       (s.charge.path = .charge → t.charge.session = none ∧ t.charge.demand = 0) ∧
       (let x := s.tables.charge
        let kept : TableSlot := if x.owner = some .dock then { x with staging := x.active, owner := none } else x
        t.tables.charge = if s.charge.path = .charge then
          { kept with active := x.waiting.getD x.active, waiting := none } else kept) ∧
       t.charge.presence = s.charge.presence ∧ t.acq = s.acq ∧ t.modem = s.modem ∧ t.pending = s.pending)

/-- A phase time limit (R122): the next phase is entered with its time at 0, or, where FAULT is named, the stage is
FAULTED in its phase with no bleeding, a cap of 0 and CHARGE_TIMEOUT present (its action below TRIP). The exit test of a
RUNNING phase at a scan completion (R121): never, the lowest or highest V_i above or the lowest below the exit value
(with no cell marked), ten scans running with |I_scan| below it, or the phase time at or above it in seconds; met, the
next phase is entered, otherwise the below count follows. A phase entry (R120): RUNNING with phase time, below count and
demand 0, the highest phase noted; a done phase raises CHARGE_DONE and takes the full anchor. At a completion presence
comes before the test (log 37), and where the test is met the bleed slots are assigned before or after the entry (log 4).
-/
def Obligations.PhaseLimitMovesOrFaults : Prop :=
  (∀ (s : State) (p : Nat), s.charge.session = some { faulted := false, phase := p } → s.phaseField p 5 ≠ 0 →
    12000000 * s.phaseField p 5 ≤ s.charge.phaseTime → s.charge.path = .charge → s.drive.motor ≠ .probe →
    s.cause.present.length = 16 →
    ∃ t, exec .phaseTimeLimit s = .next t ∧ t.acq = s.acq ∧ t.modem = s.modem ∧ t.pending = s.pending ∧
      t.charge.presence = s.charge.presence ∧
      (s.phaseField p 7 ≠ 255 →
        t.charge.session = some { faulted := false, phase := s.phaseField p 7 } ∧ t.charge.phaseTime = 0 ∧
        t.charge.demand = 0) ∧
      (s.phaseField p 7 = 255 → s.cond .chargeTimeout = false → s.actionOf .chargeTimeout ≠ 3 →
        t.charge.session = some { faulted := true, phase := p } ∧ t.charge.cap = 0 ∧ t.charge.demand = 0 ∧
        t.charge.bleed = List.replicate 7 false ∧ t.cond .chargeTimeout = true)) ∧
  (∀ (s : State) (x : ScanSet) (p : Nat), s.charge.session = some { faulted := false, phase := p } →
    let test := s.phaseField p 3
    let value := s.phaseField p 4
    let below := if test = 4 ∧ x.iScan.natAbs < value then min 10 (s.charge.below + 1) else 0
    let met : Prop :=
      (test = 1 ∧ true ∉ x.cellSat ∧ value < minNat x.volts) ∨ (test = 2 ∧ true ∉ x.cellSat ∧ value < maxNat x.volts) ∨
      (test = 3 ∧ true ∉ x.cellSat ∧ minNat x.volts < value) ∨ (test = 4 ∧ below = 10) ∨
      (test = 5 ∧ 12000000 * value ≤ s.charge.phaseTime)
    (met → s.exitScan x = s.enterPhase (s.phaseField p 6)) ∧
    (¬ met → s.exitScan x = { s with charge := { s.charge with below := below } }) ∧
    (met → s.sessionScan x = (s.exitScan x).bleedScan x ∨ s.sessionScan x = (s.freeUsed.bleedScan x).exitScan x) ∧
    (¬ met → s.sessionScan x = (s.exitScan x).bleedScan x)) ∧
  (∀ (s : State) (x : ScanSet),
    s.chargeScan x = (s.presenceScan x).sessionScan x ∧
    ((∀ p, s.charge.session ≠ some { faulted := false, phase := p }) →
      s.exitScan x = s ∧ s.sessionScan x = s.bleedScan x)) ∧
  (∀ (s : State) (p : Nat),
    let t := s.enterPhase p
    t.charge.session = some { faulted := false, phase := p } ∧ t.charge.phaseTime = 0 ∧ t.charge.below = 0 ∧
    t.charge.demand = 0 ∧ t.charge.highest = max s.charge.highest p ∧ t.charge.path = s.charge.path ∧
    t.charge.bleed = s.charge.bleed ∧ t.tables = s.tables ∧ t.drive = s.drive ∧
    (s.phaseField p 2 / 2 % 2 = 1 →
      t.pack.q = some t.pack.qFull ∧ t.pack.emptyMark = false ∧
      ∃ x, x ∈ t.cause.records ∧ x.kind = .chargeDone ∧ x.reported = false) ∧
    (s.phaseField p 2 / 2 % 2 = 0 → t.pack = s.pack ∧ t.cause = s.cause))

/-- The cap C (R124): 0 with no session, while HOLD, the trip latch, dock silence or a faulted stage is in force, or
with a pack temperature outside the window; otherwise the smallest of the phase's demand, the dock's maximum current
and the temperature term, which is half the phase's demand below t_low. D becomes the smaller of D and C. -/
def Obligations.CapIsTheSmallestTerm : Prop :=
  ∀ s : State,
    s.formCap = { s with charge := { s.charge with
      cap := s.formCap.charge.cap, demand := min s.charge.demand s.formCap.charge.cap } } ∧
    (s.charge.session = none → s.formCap.charge.cap = 0) ∧
    (∀ x, s.charge.session = some x →
      ((x.faulted = true ∨ s.cause.trip = true ∨ s.cond .dockSilent = true ∨
          (∃ k, s.cond k = true ∧ s.actionOf k = 2) ∨ s.tempLow < s.chargeSetting 1 ∨
          s.chargeSetting 3 < s.tempHigh) → s.formCap.charge.cap = 0) ∧
      (x.faulted = false → s.cause.trip = false → s.cond .dockSilent = false →
        (∀ k, s.cond k = true → s.actionOf k ≠ 2) → s.chargeSetting 1 ≤ s.tempLow → s.tempHigh ≤ s.chargeSetting 3 →
        ∀ d, s.charge.dock = some d →
          s.formCap.charge.cap = min (s.phaseField x.phase 0) (min d.maxCurrent
            (if s.tempLow < s.chargeSetting 2 then s.phaseField x.phase 0 / 2 else s.phaseField x.phase 0))))

/-- The bleed slots (R127): at most three; a holder keeps its slot exactly while its spread is at least half
balance_delta, a new one has a spread of at least balance_delta, and a candidate is left out only with all three slots
taken, every newly filled one by a higher cell, or an equal one of lower number. At a scan completion they are assigned
so from the lowest V_i of the scan while balancing is on: the path CHARGE, the stage RUNNING in a phase with its
balance flag, and the higher thermistor below t_max; with it off every slot is released. -/
def Obligations.BleedSlotsAssigned : Prop :=
  (∀ (volts : List Nat) (delta : Nat) (held : List Bool), held.length = 7 → held.countP id ≤ 3 → 2 ≤ delta →
    let after := assignSlots volts delta held
    after.length = 7 ∧ after.countP id ≤ 3 ∧
    (∀ i, i < 7 → held.getD i false = true → (after.getD i false = true ↔ delta / 2 ≤ spread volts i)) ∧
    (∀ i, i < 7 → held.getD i false = false → after.getD i false = true → delta ≤ spread volts i) ∧
    (∀ i, i < 7 → held.getD i false = false → after.getD i false = false → delta ≤ spread volts i →
      after.countP id = 3 ∧
      ∀ j, j < 7 → held.getD j false = false → after.getD j false = true →
        volts.getD i 0 < volts.getD j 0 ∨ (volts.getD i 0 = volts.getD j 0 ∧ j < i))) ∧
  (∀ (volts : List Nat) (i : Nat), spread volts i = volts.getD i 0 - minNat volts) ∧
  (∀ (s : State) (x : ScanSet),
    (∀ p, s.charge.path = .charge → s.charge.session = some { faulted := false, phase := p } →
      s.phaseField p 2 % 2 = 1 → max x.tp1 x.tp2 < s.chargeSetting 3 →
      s.bleedScan x = { s with charge := { s.charge with
        bleed := assignSlots x.volts (s.chargeSetting 4).toNat s.charge.bleed } }) ∧
    (s.charge.path ≠ .charge ∨ (∀ p, s.charge.session ≠ some { faulted := false, phase := p }) ∨
        (∃ p, s.charge.session = some { faulted := false, phase := p } ∧ s.phaseField p 2 % 2 = 0) ∨
        s.chargeSetting 3 ≤ max x.tp1 x.tp2 →
      s.bleedScan x = { s with charge := { s.charge with bleed := List.replicate 7 false } }))

/-! ### The contact link (07) -/

/-- R133: an entry is offered at the tail of the receive FIFO of 32 places. Below 32 entries it is placed, after an
overrun mark where overrun is pending; where only the mark finds a place the entry is dropped and overrun is pending
again. At 32 entries it is dropped, overrun is pending, and a byte, parity or stop entry counts in RX_OVERRUN. A place
freed while overrun is pending takes the overrun mark at once. -/
def Obligations.ReceiveFifoKeepsArrivalOrder : Prop :=
  ∀ (m : Modem) (e : FifoEntry),
    let lost : Modem := { m with overrun := true, rxOverrun := (m.offer e).rxOverrun }
    (m.fifo.length < 32 → m.overrun = false → m.offer e = { m with fifo := m.fifo ++ [e] }) ∧
    (m.fifo.length + 1 < 32 → m.overrun = true →
      m.offer e = { m with fifo := m.fifo ++ [.overrun, e], overrun := false }) ∧
    (m.fifo.length + 1 = 32 → m.overrun = true → m.offer e = { lost with fifo := m.fifo ++ [.overrun] }) ∧
    (32 ≤ m.fifo.length → m.offer e = lost ∧
      (m.offer e).rxOverrun =
        (match e with | .brk | .overrun => m.rxOverrun | _ => min 65535 (m.rxOverrun + 1))) ∧
    (m.overrun = false → m.pop = { m with fifo := m.fifo.drop 1 }) ∧
    (m.overrun = true → m.pop = { m with fifo := m.fifo.drop 1 ++ [.overrun], overrun := false })

/-- A received bit-time in AWAKE with the transmitter IDLE and no other modem step due (R130, R131): with carrier
ABSENT it moves the tone run; with carrier PRESENT it moves the silence run and feeds the receiver, a space beginning
a character. Carrier (R130, R135): six bit-times of tone assert it, with a new period number, and an answer that
waited is discarded with REPLY_MISSED; three of silence deassert it, the reply window of the ended period opens with
10 ms, and an answer of that period that waits begins its transmission, one of another period being discarded. A
discarded RESET answer brings its soft reset (R136; 11 R188). -/
def Obligations.BitTimesAndCarrier : Prop :=
  (∀ (s : State) (bit : BitClass), s.awake = true → s.modem.tx = none → s.modem.stepDue = false →
     (s.modem.carrier = false →
       exec (.receivedBitTime bit) s = .next { s with modem := { s.modem with
         toneRun := if bit = .noTone then 0 else s.modem.toneRun + 1 } }) ∧
     (s.modem.carrier = true →
       (s.modem.rx = .idle → bit = .space →
         exec (.receivedBitTime bit) s = .next { s with modem := { s.modem with rx := .character [], silRun := 0 } }) ∧
       (s.modem.rx = .idle → bit ≠ .space →
         exec (.receivedBitTime bit) s = .next { s with modem := { s.modem with
           bitsSince := min 22 (s.modem.bitsSince + 1),
           silRun := if bit = .noTone then s.modem.silRun + 1 else 0 } }) ∧
       (∀ bits, s.modem.rx = .character bits →
         exec (.receivedBitTime bit) s = .next { s with modem := { s.modem with
           rx := .character (bits ++ [bit]), silRun := if bit = .noTone then s.modem.silRun + 1 else 0 } }))) ∧
  (∀ s : State, s.awake = true → s.modem.tx = none →
     (s.modem.carrier = false → 6 ≤ s.modem.toneRun → s.modem.buf = none →
       exec .carrierAssert s = .next { s with modem := { s.modem with
         carrier := true, toneRun := 0, silRun := 0, period := (s.modem.period + 1) % 256, window := none } }) ∧
     (∀ a, s.modem.carrier = false → 6 ≤ s.modem.toneRun → s.modem.buf = some a →
       let risen : State := { s with modem := { s.modem with
         carrier := true, toneRun := 0, silRun := 0, period := (s.modem.period + 1) % 256, window := none,
         buf := none, replyMissed := min 65535 (s.modem.replyMissed + 1) } }
       (a.tag ≠ .resetOk → exec .carrierAssert s = .next risen) ∧
       (a.tag = .resetOk → exec .carrierAssert s = .next (risen.takeReset .soft))) ∧
     (s.modem.carrier = true → 3 ≤ s.modem.silRun →
       ∃ t, exec .carrierDeassert s = .next t ∧ t.modem.carrier = false ∧ t.modem.toneRun = 0 ∧ t.modem.silRun = 0 ∧
         (s.modem.buf = none →
           t = { s with modem := t.modem } ∧ t.modem.window = some (s.modem.period, 12000 * 10) ∧
           t.modem.rx = .idle ∧ t.modem.breakDue = false ∧ t.modem.tx = none ∧
           t.modem.fifo = (if s.modem.breakDue = true then (s.modem.offer .brk).fifo else s.modem.fifo)) ∧
         (∀ a, s.modem.buf = some a → a.period = s.modem.period →
           t = { s with modem := t.modem } ∧ t.modem.window = none ∧ t.modem.buf = none ∧ t.modem.rx = .off ∧
           t.modem.tx = some { stage := .preamble, answer := a, time := 0 }) ∧
         (∀ a, s.modem.buf = some a → a.period ≠ s.modem.period →
           let down : Modem := { s.modem with
             carrier := false, toneRun := 0, silRun := 0, rx := .idle, breakDue := false, bitsSince := 0 }
           let fallen : Modem := if s.modem.breakDue = true then down.offer .brk else down
           let gone : State := { s with modem := { fallen with
             window := some (s.modem.period, 12000 * 10), buf := none,
             replyMissed := min 65535 (s.modem.replyMissed + 1) } }
           t = if a.tag = .resetOk then gone.takeReset .soft else gone)))

/-- A character of ten bit-times (R131): a stop bit that is no mark gives a stop mark, a bad parity a parity mark,
each counted, and otherwise the byte is offered with its carrier period; the receiver is IDLE and a break is due. A
quiet stretch of 22 bit-times offers the break mark that is due (R132). The head of the receive FIFO taken by the
contact parser while no request is being served (R134): a byte is parsed; a mark discards a frame in progress, a break
mark counting RX_GAP there, and changes nothing else in HUNT. A byte at the contact parser (10 R168, R169): HUNT waits
for 5Ch; a length of 1..64 begins the body, and any other counts in HEADER and is taken again in HUNT; body and the two
CRC bytes are collected. A frame whose CRC differs, that ends in the start-up window, or that finds the slot full is
dropped and counted for the contact link; otherwise the slot holds its kind, body, completion order and the carrier
period of its last byte, and with a dock record held the silence time is 0 and DOCK_SILENT ended (06 R116). -/
def Obligations.CharactersAndEntries : Prop :=
  (∀ s : State, s.awake = true → s.modem.tx = none →
     (∀ bits, s.modem.rx = .character bits → 10 ≤ bits.length →
       let done : Modem := { s.modem with rx := .idle, breakDue := true, bitsSince := 0 }
       let ones := ((bits.take 9).map fun b => if b = .space then 0 else 1).sum
       let value := ((List.range 8).map fun i => if bits.getD i .mark = .space then 0 else 2 ^ i).sum
       (bits.getD 9 .noTone ≠ .mark → exec .characterComplete s = .next { s with
         modem := ({ done with rxStop := min 65535 (s.modem.rxStop + 1) }).offer .stop }) ∧
       (bits.getD 9 .noTone = .mark → ones % 2 = 1 → exec .characterComplete s = .next { s with
         modem := ({ done with rxParity := min 65535 (s.modem.rxParity + 1) }).offer .parity }) ∧
       (bits.getD 9 .noTone = .mark → ones % 2 = 0 → exec .characterComplete s = .next { s with
         modem := done.offer (.byte (BitVec.ofNat 8 value) s.modem.period) })) ∧
     (s.modem.breakDue = true → s.modem.carrier = true → s.modem.rx = .idle → 22 ≤ s.modem.bitsSince →
       exec .breakMark s = .next { s with modem := ({ s.modem with breakDue := false }).offer .brk })) ∧
  (∀ (s : State) (e : FifoEntry) (rest : List FifoEntry), s.awake = true → s.frame.waiting = none →
     s.modem.fifo = e :: rest →
     (∀ b period, e = .byte b period →
       exec .contactEntryTaken s = .next (({ s with modem := s.modem.pop }).parseByte .dock b period)) ∧
     (e = .parity ∨ e = .stop ∨ e = .overrun ∨ e = .brk → s.frame.coPar.state = .hunt →
       exec .contactEntryTaken s = .next { s with modem := s.modem.pop }) ∧
     (e = .parity ∨ e = .stop ∨ e = .overrun → s.frame.coPar.state ≠ .hunt →
       exec .contactEntryTaken s = .next { s with
         modem := s.modem.pop, frame := { s.frame with coPar := Parser.hunting } }) ∧
     (e = .brk → s.frame.coPar.state ≠ .hunt →
       exec .contactEntryTaken s = .next { s with
         modem := { s.modem.pop with rxGap := min 65535 (s.modem.rxGap + 1) },
         frame := { s.frame with coPar := Parser.hunting } })) ∧
  (∀ (s : State) (b : Byte) (period : Nat),
     let p := s.frame.coPar
     let t := s.parseByte .dock b period
     let got (q : Parser) : State := { s with frame := { s.frame with coPar := q } }
     let start : Parser := { Parser.hunting with state := .length }
     (p.state = .hunt → t = if b = 0x5C#8 then got start else s) ∧
     (p.state = .length → 1 ≤ b.toNat → b.toNat ≤ 64 →
       t = got { p with state := .body, len := b.toNat, bytes := [] }) ∧
     (p.state = .length → b.toNat = 0 ∨ 64 < b.toNat →
       t = (got (if b = 0x5C#8 then start else Parser.hunting)).withCounts
         fun c => { c with coHeader := min 65535 (c.coHeader + 1) }) ∧
     (p.state = .body →
       t = got { p with
         bytes := p.bytes ++ [b], state := if p.len ≤ p.bytes.length + 1 then .crc1 else .body }) ∧
     (p.state = .crc1 → t = got { p with state := .crc2, crcHigh := b }) ∧
     (p.state = .crc2 →
       let good : Prop := crcBytes (BitVec.ofNat 8 p.bytes.length :: p.bytes) = [p.crcHigh, b]
       let left := got Parser.hunting
       let taken : State := { s with frame := { s.frame with
         coPar := Parser.hunting, nextOrder := s.frame.nextOrder + 1,
         coSlot := some { kind := p.bytes.headD 0, body := p.bytes.drop 1, order := s.frame.nextOrder,
                          period := period } } }
       (¬ good → t = left.withCounts fun c => { c with coCrc := min 65535 (c.coCrc + 1) }) ∧
       (good → s.frame.startup ≠ none → t = left.withCounts fun c => { c with coEarly := min 65535 (c.coEarly + 1) }) ∧
       (good → s.frame.startup = none → s.frame.coSlot ≠ none →
         t = left.withCounts fun c => { c with coSlotFull := min 65535 (c.coSlotFull + 1) }) ∧
       (good → s.frame.startup = none → s.frame.coSlot = none →
         (s.charge.dock = none → t = taken.settled) ∧
         (s.charge.dock ≠ none →
           t = (({ taken with charge := { s.charge with silence := some 0 } } : State).endCond .dockSilent).settled))))

/-- The reply window and the transmitter (R135, R137): after its 10 ms the window closes; the preamble of 8 bit-times
is followed by the frame at 11 bit-times a byte, and this by the postamble of 2, after which transmitter and receiver
are IDLE. A stage that ends late begins the next from 0 (log 33). A RESET answer brings the soft reset at its end, or
where it is discarded (11 R188). The part's own tone: none with the transmitter
IDLE, mark in preamble and postamble, and in the frame the answer's characters back to back, each of 11 bit-times: a
space, the eight data bits from the least significant up, mark for 1, the even parity bit, a mark. The receiver reads
such a character back as its byte (R131). -/
def Obligations.ReplyWindowAndTransmission : Prop :=
  (∀ s : State,
    (∀ period, s.modem.window = some (period, 0) → s.modem.buf = none →
      exec .replyWindowExpiry s = .next { s with modem := { s.modem with window := none } }) ∧
    (∀ period a, s.modem.window = some (period, 0) → s.modem.buf = some a →
      let closed : State := { s with modem := { s.modem with
        window := none, buf := none, replyMissed := min 65535 (s.modem.replyMissed + 1) } }
      (a.tag ≠ .resetOk → exec .replyWindowExpiry s = .next closed) ∧
      (a.tag = .resetOk → exec .replyWindowExpiry s = .next (closed.takeReset .soft))) ∧
    (∀ a time, s.modem.tx = some { stage := .preamble, answer := a, time := time } → 625 * 8 ≤ time →
      exec .transmitStageEnd s = .next { s with modem := { s.modem with
        tx := some { stage := .frame, answer := a, time := 0 } } }) ∧
    (∀ a time, s.modem.tx = some { stage := .frame, answer := a, time := time } →
      625 * (11 * a.bytes.length) ≤ time →
      exec .transmitStageEnd s = .next { s with modem := { s.modem with
        tx := some { stage := .postamble, answer := a, time := 0 } } }) ∧
    (∀ a time, s.modem.tx = some { stage := .postamble, answer := a, time := time } → 625 * 2 ≤ time →
      (a.tag ≠ .resetOk → exec .transmissionEnd s = .next { s with modem := { s.modem with
        tx := none, rx := .idle, toneRun := 0, silRun := 0 } }) ∧
      (a.tag = .resetOk → exec .transmissionEnd s = .next (({ s with modem := { s.modem with
        tx := none, rx := .idle, toneRun := 0, silRun := 0 } }).takeReset .soft)))) ∧
  (∀ m : Modem,
    (m.tx = none → m.toneOut = .noTone) ∧
    (∀ a time, m.tx = some { stage := .preamble, answer := a, time := time } ∨
        m.tx = some { stage := .postamble, answer := a, time := time } → m.toneOut = .mark) ∧
    (∀ a time c k, m.tx = some { stage := .frame, answer := a, time := time } → c < a.bytes.length → k < 11 →
      time / 625 = 11 * c + k →
      let b := a.bytes.getD c 0
      let one : Prop :=
        (1 ≤ k ∧ k ≤ 8 ∧ b.getLsbD (k - 1) = true) ∨
        (k = 9 ∧ ((List.range 8).countP fun i => b.getLsbD i) % 2 = 1) ∨ k = 10
      (one → m.toneOut = .mark) ∧ (¬ one → m.toneOut = .space))) ∧
  (∀ (m : Modem) (b : Byte),
    let done : Modem := { m with rx := .idle, breakDue := true, bitsSince := 0 }
    (characterTones b).length = 11 ∧ (characterTones b).head? = some .space ∧
    m.takeCharacter ((characterTones b).drop 1) = done.offer (.byte b m.period))

/-! ### Causes (08) -/

/-- R151: an occurrence of a kind with no record creates one, with the time now, count 1, unreported, and its detail;
of a kind with a record it raises the count to at most 255, clears the reported flag, replaces the detail and keeps
the first-occurrence time. Records of other kinds stay, and two records of a kind never arise. -/
def Obligations.OccurrencesAreRecorded : Prop :=
  ∀ (s : State) (k : CauseKind) (d d2 : Nat),
    let rs := s.cause.records
    let after := (s.occur k d d2).cause.records
    ((∀ r, r ∈ rs → r.kind ≠ k) →
      after = rs ++ [{ kind := k, firstMs := s.clockMs, count := 1, reported := false, detail := d, detail2 := d2 }]) ∧
    (∀ r, r ∈ rs → r.kind = k →
      after = rs.map (fun x => if x.kind = k then
        { kind := k, firstMs := x.firstMs, count := min 255 (x.count + 1), reported := false, detail := d,
          detail2 := d2 } else x)) ∧
    ((rs.map (·.kind)).Nodup → (after.map (·.kind)).Nodup) ∧
    (s.occur k d d2).cause.present = s.cause.present ∧
    (s.occur k d d2).log.ring = s.log.ring ∧ (s.occur k d d2).drive = s.drive

/-- The onset and the end of a condition (R144, R152): an onset comes from an absent condition only and sets its flag;
an end comes from a present one only, clears its flag and removes a reported record, an unreported one staying. -/
def Obligations.ConditionsBeginAndEnd : Prop :=
  ∀ (s : State) (k : CauseKind) (d : Nat), isInfo k = false → s.cause.present.length = 16 →
    (s.cond k = true → s.raise k d = s) ∧
    (s.cond k = false → s.actionOf k ≠ 3 → k ≠ .overcurrent →
      (s.raise k d).cond k = true ∧ (∀ j, j ≠ k → (s.raise k d).cond j = s.cond j) ∧
      (s.raise k d).cause.records = (s.occur k d 0).cause.records ∧ (s.raise k d).cause.trip = s.cause.trip ∧
      (s.raise k d).drive = s.drive ∧ (s.raise k d).charge = s.charge) ∧
    (s.cond k = false → s.actionOf k = 3 → (s.raise k d).cause.trip = true) ∧
    (s.cond k = false → s.endCond k = s) ∧
    (s.cond k = true →
      (s.endCond k).cond k = false ∧ (∀ j, j ≠ k → (s.endCond k).cond j = s.cond j) ∧
      (∀ r, r ∈ (s.endCond k).cause.records ↔
        r ∈ s.cause.records ∧ ¬ (r.kind = k ∧ r.reported = true)) ∧
      (s.endCond k).cause.trip = s.cause.trip ∧ (s.endCond k).drive = s.drive)

/-! ### Session log (09) -/

/-- R163: a record takes sequence N and is the newest of the ring; a full ring of 32 drops its oldest, the drop count
rising to at most 65535; N advances by 1, from 65535 to 1; SESSION_LOGGED is raised; the open session becomes none. The
close of a CHARGE session (06 R111, R123; R162): the path enters OPEN with its dwell, demand and cap are 0, no switch
bleeds, the record enters the ring, and a CHARGE image that waits is taken up last. The record: the reason, the whole
seconds since the opening (of a clock that saturates, log 24), start and end SoC, the charge sum negated in mAh, the
causes seen, the highest phase, the bleed time in whole seconds up to 65535, the learned capacity. The phase time keeps
its value (log 47). The reasons: UNDOCKED, LINK_LOST, TRIP. -/
def Obligations.RecordsEnterTheRing : Prop :=
  (∀ (s : State) (r : LogRecord),
    let t := s.writeRecord r
    (s.log.ring.length < 32 →
      t.log.ring = s.log.ring ++ [{ r with seq := s.log.nextSeq }] ∧ t.log.drops = s.log.drops) ∧
    (32 ≤ s.log.ring.length →
      t.log.ring = s.log.ring.drop 1 ++ [{ r with seq := s.log.nextSeq }] ∧
      t.log.drops = min 65535 (s.log.drops + 1)) ∧
    (s.log.nextSeq < 65535 → t.log.nextSeq = s.log.nextSeq + 1) ∧ (s.log.nextSeq = 65535 → t.log.nextSeq = 1) ∧
    t.log.session = none ∧ (∃ x, x ∈ t.cause.records ∧ x.kind = .sessionLogged ∧ x.reported = false) ∧
    t.log.winChassis = s.log.winChassis ∧ t.log.winDock = s.log.winDock ∧ t.cause.present = s.cause.present ∧
    t.drive = s.drive ∧ t.charge = s.charge ∧ t.tables = s.tables) ∧
  (∀ (s : State) (a : Session), s.charge.path = .charge → s.log.session = some a → a.kind = .charge →
    let holds (t : State) (why : EndReason) : Prop :=
      ∃ x, x ∈ t.log.ring ∧ x.seq = s.log.nextSeq ∧ x.kind = .charge ∧ x.reason = why
    (∀ why : EndReason,
      s.openFromCharge why = (({ s with charge := { s.charge with
        path := .opened, dwell := some (12000 * 5), demand := 0, cap := 0, session := none,
        bleed := List.replicate 7 false } } : State).writeRecord
          { seq := 0, kind := .charge, reason := why,
            common := some { duration := (s.clockMs - a.openMs) / 1000, startSoc := a.startSoc, endSoc := s.pack.soc,
                             chargeDelta := clampInt (-32768) 32767 (roundDiv (-a.chargeSum) 3600000),
                             causes := a.causes },
            clean := none, charge := some (s.charge.highest, min 65535 (s.charge.bleedTime / 12000000)),
            learned := a.learned }).takeUp .charge) ∧
    holds s.becomeAbsent .undocked ∧
    (s.cause.trip = false → holds s.setTrip .trip) ∧
    (∀ time, s.awake = true → s.charge.silence = some time → 12000 * 5000 ≤ time →
      ∃ t, exec .dockLinkLost s = .next t ∧ holds t .linkLost))

/-! ### Frames (10) -/

/-- A chassis character with a good stop bit is parsed byte by byte (R168): HUNT waits for 5Ch; a length byte 1..64
begins the body, and any other is counted in HEADER and taken again in HUNT; the body is collected, then the two CRC
bytes. A character with a bad stop bit counts in FRAMING and discards a frame in progress. A complete chassis frame
(R169): one whose CRC differs, that ends in the start-up window, or that finds the slot full is dropped and counted;
otherwise the slot holds its kind and body with the next completion order, and a part asleep is awake. -/
def Obligations.ChassisFramesAreParsed : Prop :=
  (∀ (s : State) (b : Byte), s.live = true →
     let got (p : Parser) : State := { s with frame := { s.frame with gapTime := 0, chPar := p } }
     (s.frame.chPar.state = .hunt → b ≠ 0x5C#8 →
       exec (.chassisCharacter b true) s = .next { s with frame := { s.frame with gapTime := 0 } }) ∧
     (s.frame.chPar.state = .hunt → s.power.state = .awake →
       exec (.chassisCharacter 0x5C#8 true) s = .next (got { Parser.hunting with state := .length })) ∧
     (s.frame.chPar.state = .length → 1 ≤ b.toNat → b.toNat ≤ 64 →
       exec (.chassisCharacter b true) s =
         .next (got { s.frame.chPar with state := .body, len := b.toNat, bytes := [] })) ∧
     (s.frame.chPar.state = .length → b.toNat = 0 ∨ 64 < b.toNat → s.power.state = .awake →
       exec (.chassisCharacter b true) s =
         .next ((got (if b = 0x5C#8 then { Parser.hunting with state := .length } else Parser.hunting)).withCounts
           fun c => { c with chHeader := min 65535 (c.chHeader + 1) })) ∧
     (s.frame.chPar.state = .body → s.frame.chPar.bytes.length + 1 < s.frame.chPar.len →
       exec (.chassisCharacter b true) s =
         .next (got { s.frame.chPar with bytes := s.frame.chPar.bytes ++ [b] })) ∧
     (s.frame.chPar.state = .body → s.frame.chPar.len ≤ s.frame.chPar.bytes.length + 1 →
       exec (.chassisCharacter b true) s =
         .next (got { s.frame.chPar with bytes := s.frame.chPar.bytes ++ [b], state := .crc1 })) ∧
     (s.frame.chPar.state = .crc1 →
       exec (.chassisCharacter b true) s = .next (got { s.frame.chPar with state := .crc2, crcHigh := b })) ∧
     exec (.chassisCharacter b false) s =
       .next ((got Parser.hunting).withCounts fun c => { c with chFraming := min 65535 (c.chFraming + 1) })) ∧
  (∀ (s : State) (b : Byte), s.live = true → s.frame.chPar.state = .crc2 →
     let bytes := s.frame.chPar.bytes
     let good := crcBytes (BitVec.ofNat 8 bytes.length :: bytes) = [s.frame.chPar.crcHigh, b]
     let left : State := { s with frame := { s.frame with gapTime := 0, chPar := Parser.hunting } }
     (¬ good → exec (.chassisCharacter b true) s =
       .next (left.withCounts fun c => { c with chCrc := min 65535 (c.chCrc + 1) })) ∧
     (good → s.frame.startup ≠ none → exec (.chassisCharacter b true) s =
       .next (left.withCounts fun c => { c with chEarly := min 65535 (c.chEarly + 1) })) ∧
     (good → s.frame.startup = none → s.frame.chSlot ≠ none → exec (.chassisCharacter b true) s =
       .next (left.withCounts fun c => { c with chSlotFull := min 65535 (c.chSlotFull + 1) })) ∧
     (good → s.frame.startup = none → s.frame.chSlot = none →
       ∃ t, exec (.chassisCharacter b true) s = .next t ∧
         t.frame.chSlot = some { kind := bytes.headD 0, body := bytes.drop 1, order := s.frame.nextOrder, period := 0 } ∧
         t.frame.nextOrder = s.frame.nextOrder + 1 ∧ t.frame.chPar = Parser.hunting ∧
         t.frame.counts = s.frame.counts ∧ t.power.state = .awake ∧ t.acq.latest = s.acq.latest ∧
         t.plan.mode = s.plan.mode ∧ t.pack.v = s.pack.v ∧ t.pending = s.pending))

/-- The band blank that has run down ends (R46). A gap of more than 100 us within a chassis frame discards it and
counts in GAP (R168); the start-up window ends when its time has run (R182). -/
def Obligations.TimersThatOnlyEnd : Prop :=
  (∀ s : State, s.dirt.bandBlank = some 0 →
     exec .bandBlank s = .next { s with dirt := { s.dirt with bandBlank := none } }) ∧
  (∀ s : State,
     (s.live = true → s.frame.chPar.state ≠ .hunt → 12 * 100 < s.frame.gapTime →
       exec .gap s = .next (({ s with frame := { s.frame with chPar := Parser.hunting } }).withCounts
         fun c => { c with chGap := min 65535 (c.chGap + 1) })) ∧
     (s.frame.startup = some 0 →
       exec .startUpWindow s = .next { s with frame := { s.frame with startup := none } }))

/-- The chassis transmitter (R170): after 10 us for each character of its frame it is free again; an answer in the
buffer goes next, before telemetry, and an answer that waited for the buffer enters it and empties its slot (in SLEEP
too: log 53, the model's choice). An answer
handed to its link (R170; 07 R136): on the chassis it is sent at once, or waits in the buffer, or waits for the buffer
with its request still in the slot; on the contacts it is sent in the open window of its period, waits while the
carrier of its period stands, there replacing one that waits, which counts in REPLY_MISSED (never a RESET answer, after
which nothing is served), or is discarded with REPLY_MISSED, a RESET answer with its soft reset (11 R188). An
answer's frame (12 section 12.1): 5Ch, the length
of kind and body, the request's kind plus 80h (below 80h; log 41 above it), the status code, the data, and the CRC high
byte first: polynomial 1021h from FFFFh over length, kind and body, most significant bit first, 29B1h over "123456789".
-/
def Obligations.AnswersAreSent : Prop :=
  (∀ (s : State) (bytes : List Byte) (time : Nat), s.live = true →
     s.frame.sending = some ({ bytes := bytes, tag := .plain }, time) → 12 * (10 * bytes.length) ≤ time →
     (s.frame.txBuf = none → s.frame.telem = [] →
       exec .chassisFrameSent s = .next { s with frame := { s.frame with sending := none } }) ∧
     (∀ f rest, s.frame.txBuf = none → s.frame.telem = f :: rest →
       exec .chassisFrameSent s = .next { s with frame := { s.frame with sending := some (f, 0), telem := rest } }) ∧
     (∀ a, s.frame.txBuf = some a → s.frame.waiting = none →
       exec .chassisFrameSent s = .next { s with frame := { s.frame with sending := some (a, 0), txBuf := none } }) ∧
     (∀ a w, s.frame.txBuf = some a → s.frame.waiting = some w →
       exec .chassisFrameSent s = .next { s with frame := { s.frame with
         sending := some (a, 0), txBuf := some w, waiting := none, chSlot := none } })) ∧
  (∀ (p : Reply) (r : Request),
     let bytes := answerBytes r.kind p.status p.data
     let f := p.state.frame
     let a : TxFrame := { bytes := bytes, tag := p.tag }
     let d : Answer := { bytes := bytes, period := r.period, tag := p.tag }
     let m := p.state.modem
     (f.txBuf = none → f.sending = none → f.waiting = none →
       p.handTo .chassis r = { p.state with frame := { f with sending := some (a, 0), chSlot := none } }) ∧
     (∀ x, f.txBuf = none → f.sending = some x →
       p.handTo .chassis r = { p.state with frame := { f with txBuf := some a, chSlot := none } }) ∧
     (∀ x, f.txBuf = some x → p.handTo .chassis r = { p.state with frame := { f with waiting := some a } }) ∧
     (∀ left, m.window = some (r.period, left) → m.tx = none →
       p.handTo .dock r = { p.state with
         frame := { f with coSlot := none },
         modem := { m with
           tx := some { stage := .preamble, answer := d, time := 0 }, buf := none, window := none, rx := .off,
           carrier := false, toneRun := 0, silRun := 0 } }) ∧
     (m.window = none → m.carrier = true → m.period = r.period → m.buf = none →
       p.handTo .dock r = { p.state with
         frame := { f with coSlot := none }, modem := { m with buf := some d } }) ∧
     (∀ old, m.window = none → m.carrier = true → m.period = r.period → m.buf = some old →
       p.handTo .dock r = { p.state with
         frame := { f with coSlot := none },
         modem := { m with buf := some d, replyMissed := min 65535 (m.replyMissed + 1) } }) ∧
     ((∀ left, m.window ≠ some (r.period, left)) → m.window ≠ none ∨ m.carrier = false ∨ m.period ≠ r.period →
       let gone : State := { p.state with
         frame := { f with coSlot := none },
         modem := { m with buf := none, replyMissed := min 65535 (m.replyMissed + 1) } }
       (p.tag ≠ .resetOk → p.handTo .dock r = gone) ∧
       (p.tag = .resetOk → p.handTo .dock r = gone.takeReset .soft))) ∧
  (∀ (kind : Byte) (st : Status) (data : List Byte),
     let inner := BitVec.ofNat 8 (data.length + 2) :: BitVec.ofNat 8 (kind.toNat + 128) :: statusCode st :: data
     let crc := crcOf inner
     answerBytes kind st data =
       0x5C#8 :: inner ++ [BitVec.ofNat 8 (crc.toNat / 256), BitVec.ofNat 8 (crc.toNat % 256)]) ∧
  [Status.ok, .accepted, .pending, .busy, .none, .unknown, .badLength, .badIndex, .badTable, .notPermitted,
    .state].map statusCode = [0, 1, 2, 3, 4, 5, 6, 7, 8, 9, 10] ∧
  crcOf [] = 0xFFFF#16 ∧ crcOf [0x31, 0x32, 0x33, 0x34, 0x35, 0x36, 0x37, 0x38, 0x39] = 0x29B1#16 ∧
  (∀ (bytes : List Byte) (b : Byte),
     let shift (r : Word16) : Word16 := if r.msb then (r <<< 1) ^^^ 0x1021#16 else r <<< 1
     crcOf (bytes ++ [b]) =
       shift (shift (shift (shift (shift (shift (shift (shift (crcOf bytes ^^^ (b.zeroExtend 16 <<< 8))))))))))

/-- Telemetry (R181; 12 section 12.6): the timer that has run out starts again at the period, frames still waiting are
dropped and counted, and one frame for each group of the mask waits, the first going to an idle transmitter; the
sequence rises by one for each (log 18). The phase time is sent in whole seconds, floored (log 46), and is the closed
session's where none is open (log 47). A frame of kind E0h holds the group, the sequence, the low 24 bits of the ms
since reset and the group's values: MOTOR, PACK, DIRT or CHARGE. A value too wide for its field is its largest (R192).
R_i, Q, Q_full and SoC are those of the latest completion (05 R107), the flags and the probe state as they stand (log
42). -/
def Obligations.TelemetryIsEmitted : Prop :=
  (∀ s : State, s.awake = true → s.frame.telTimer = some 0 →
    ∃ t, exec .telemetryEmission s = .next t ∧
      t.frame.telTimer = some (12000 * s.systemField 1) ∧
      t.frame.counts = { s.frame.counts with
        skipped := min 65535 (s.frame.counts.skipped + s.frame.telem.length) } ∧
      t.frame.telSeq = (s.frame.telSeq + (groupsOf (s.systemField 0)).length) % 256 ∧
      (∀ x, s.frame.sending = some x → t.frame.telem = s.emission ∧ t.frame.sending = some x) ∧
      (s.frame.sending = none → s.frame.txBuf = none →
        t.frame.sending = s.emission.head?.map (fun f => (f, 0)) ∧ t.frame.telem = s.emission.drop 1) ∧
      t = { s with frame := t.frame } ∧ (s.frame.waiting = none → t.frame.chSlot = s.frame.chSlot)) ∧
  (∀ n : Nat, natBytes 1 n = [BitVec.ofNat 8 n] ∧ natBytes 2 n = [BitVec.ofNat 8 (n / 256), BitVec.ofNat 8 n] ∧
    natBytes 4 n = [BitVec.ofNat 8 (n / 16777216), BitVec.ofNat 8 (n / 65536), BitVec.ofNat 8 (n / 256),
      BitVec.ofNat 8 n] ∧
    natField 1 n = natBytes 1 (min n 255) ∧ natField 2 n = natBytes 2 (min n 65535) ∧
    natField 4 n = natBytes 4 (min n 4294967295)) ∧
  (∀ n : Int, intField 2 n = natBytes 2 (max (-32768) (min 32767 n) % 65536).toNat) ∧
  (∀ (s : State) (g seq : Nat),
    (s.telemetryFrame g seq).tag = .plain ∧
    (s.telemetryFrame g seq).bytes = frameBytes 0xE0#8 ([BitVec.ofNat 8 (min g 255), BitVec.ofNat 8 (min seq 255)] ++
      natBytes 3 (s.clockMs % 16777216) ++
      (if g = 1 then s.motorGroup else if g = 2 then s.packGroup else if g = 4 then s.dirtGroup else s.chargeGroup)) ∧
    s.emission = (([1, 2, 4, 8].filter fun n => s.systemField 0 / n % 2 = 1).zipIdx.map fun n =>
      s.telemetryFrame n.1 ((s.frame.telSeq + n.2 + 1) % 256))) ∧
  (∀ s : State,
    let bit (b : Bool) (i : Nat) : Nat := if b then 2 ^ i else 0
    let mAh (q : Int) : Nat := (q / 3600000).toNat
    s.motorGroup =
      natField 1 (motorCode s.drive.motor) ++ natField 4 s.drive.sM ++ natField 4 s.drive.sT ++
      natField 2 s.drive.duty ++ natField 2 s.drive.lM ++ natField 1 s.drive.attempts ++
      natBytes 1 (bit s.drive.hold.isSome 0 + bit s.plan.permit 1 + bit s.plan.runReq 2 + bit s.plan.exhausted 3 +
        bit (s.cond .blockage) 4) ++
      natField 1 (modeCode s.plan.mode) ++ natField 4 s.plan.sReq ++ natField 1 s.plan.band ∧
    s.packGroup =
      s.pack.v.flatMap (natField 2) ++ s.pack.e.flatMap (intField 2) ++
      s.pack.report.r.flatMap (fun r => natField 2 r.toNat) ++
      intField 2 (match s.acq.lastSet with | some x => x.iScan | none => 0) ++
      intField 2 (match s.acq.lastSet with | some x => max x.tp1 x.tp2 | none => 0) ++
      natField 2 s.pack.lCell ++ natField 2 s.pack.lTemp ++ natField 2 s.pack.budget ++
      natField 2 (match s.pack.report.q with | some q => mAh q | none => 0) ++
      natField 2 (mAh s.pack.report.qFull) ++ natField 1 s.pack.report.soc ++
      natField 1 (probeStateCode s.pack.probe + bit s.pack.reserve 3 + bit (s.cond .packEmpty) 4 +
        bit (s.cond .budgetExhausted) 5) ∧
    s.dirtGroup =
      s.dirt.lastWin.bins.flatMap (natField 2) ++ natField 2 s.dirt.lastWin.rejected ++
      natField 2 s.dirt.lastWin.cont ++ natField 2 s.dirt.lastWin.optTerm ++ natField 4 s.dirt.lastWin.score ++
      natField 1 s.dirt.level ++ natField 1 s.dirt.lastWin.fallHold ++
      natBytes 1 (bit s.dirt.lastWin.blanked 0 +
        bit (decide (s.drive.sT ≠ s.rampGoal ∨ s.dirt.bandBlank ≠ none)) 1) ∧
    s.chargeGroup =
      natField 1 (pathCode s.charge.path) ++ natField 1 (presenceCode s.charge.presence) ++
      natBytes 1 (bit s.charge.dock.isSome 0 + bit s.charge.report.isSome 1) ++
      natField 2 (match s.charge.dock with | some d => d.maxCurrent | none => 0) ++
      natField 2 (match s.charge.dock with | some d => d.maxVoltage | none => 0) ++
      natField 1 (match s.charge.dock with | some d => d.revision | none => 0) ++
      natField 2 (match s.charge.report with | some x => x.1 | none => 0) ++
      natField 2 (match s.charge.report with | some x => x.2 | none => 0) ++
      natField 1 (match s.charge.session with | some x => (if x.faulted then 2 else 1) | none => 0) ++
      natField 1 (match s.charge.session with | some x => x.phase | none => 255) ++
      natField 2 (s.charge.phaseTime / 12000000) ++ natField 2 s.charge.cap ++ natField 2 s.charge.demand ++
      natField 1 (bitmap s.charge.bleed)) ∧
  [MotorState.stopped, .align, .rampOpen, .capture, .run, .coast, .lockout, .probe].map motorCode =
    [0, 1, 2, 3, 4, 5, 6, 7] ∧
  [Path.opened, .discharge, .charge].map pathCode = [0, 1, 2] ∧
  [Presence.undecided, .absent, .present].map presenceCode = [0, 1, 2] ∧
  [Mode.eco, .auto, .boost].map modeCode = [0, 1, 2] ∧
  probeStateCode .idle = 0 ∧ (∀ k, probeStateCode (.pulse k) = k ∧ probeStateCode (.rest k) = 3 + k) ∧
  (∀ (marks : List Bool) (i : Nat), bitmap marks / 2 ^ i % 2 = if marks.getD i false = true then 1 else 0)

/-! ### Requests (10 and the blocks' chapters) -/

/-- The checks of R171 in their order: a kind of no request is UNKNOWN, a kind not permitted to its origin
NOT_PERMITTED, a body that does not fit BAD_LENGTH, and a table other than CHARGE from the dock NOT_PERMITTED; the
block does not act. UNKNOWN_KIND serves the first of these, and each of the 20 request kinds answers the others. The
table of R171, a row for each kind: whether the chassis and the dock may send it, and the shortest and the longest body
that fits, of the 0..63 bytes that a frame carries. -/
def Obligations.RefusedRequestsAreAnswered : Prop :=
  (∀ (s : State) (o : Origin) (r : Request), s.nextRequest = some (o, r) → s.serving = true →
    (r.kind.toNat ∉ requestKinds → exec .unknownKind s = .next ((s.reply .unknown).handTo o r)) ∧
    (r.kind.toNat ∈ requestKinds → permitted o r.kind.toNat = false → refusal? o r = some .notPermitted) ∧
    (r.kind.toNat ∈ requestKinds → permitted o r.kind.toNat = true → lengthFits r.kind.toNat r.body.length = false →
      refusal? o r = some .badLength) ∧
    (r.kind.toNat ∈ requestKinds → permitted o r.kind.toNat = true → lengthFits r.kind.toNat r.body.length = true →
      refusal? o r = if o = .dock ∧ r.kind.toNat ∈ [0x10, 0x11, 0x12, 0x13] ∧ (r.body.headD 0).toNat ≠ 7 then
        some .notPermitted else none) ∧
    (∀ st p, refusal? o r = some st →
      p ∈ [(0x01, Instr.ping), (0x02, .status), (0x10, .tableWrite), (0x11, .tableRead), (0x12, .tableActivate),
        (0x13, .tableDiscard), (0x20, .runPermit), (0x21, .modeSet), (0x22, .keepalive), (0x30, .cause),
        (0x31, .clearTrip), (0x32, .counts), (0x40, .logWindow), (0x41, .logNext), (0x50, .probe), (0x60, .sleep),
        (0x61, .ship), (0x62, .reset), (0x70, .dockHello), (0x71, .dockPoll)] →
      r.kind.toNat = p.1 → exec p.2 s = .next ((s.reply st).handTo o r))) ∧
  (let rows : List (Nat × Bool × Bool × Nat × Nat) :=
     [(0x01, true, true, 0, 62), (0x02, true, true, 0, 0), (0x10, true, true, 3, 63), (0x11, true, true, 4, 4),
      (0x12, true, true, 1, 1), (0x13, true, true, 1, 1), (0x20, true, false, 1, 1), (0x21, true, false, 1, 1),
      (0x22, true, false, 0, 0), (0x30, true, false, 0, 0), (0x31, true, false, 0, 0), (0x32, true, false, 1, 1),
      (0x40, true, true, 5, 5), (0x41, true, true, 0, 0), (0x50, true, false, 0, 0), (0x60, true, false, 0, 0),
      (0x61, true, false, 0, 0), (0x62, true, true, 0, 0), (0x70, false, true, 5, 5), (0x71, false, true, 4, 4)]
   requestKinds = rows.map (·.1) ∧
   ∀ kind chassis dock least most, (kind, chassis, dock, least, most) ∈ rows →
     permitted .chassis kind = chassis ∧ permitted .dock kind = dock ∧
     ∀ n, n ≤ 63 → (lengthFits kind n = true ↔ least ≤ n ∧ n ≤ most))

/-- PING echoes its body, and STATUS answers its 47 bytes, each item as it stands at the service (R172) in the order of
12 section 12.4; nothing else of the part changes. COUNTS answers the
18 counts in 36 bytes (R173); a body of 1 clears them all, of 0 none, and any other is BAD_INDEX. -/
def Obligations.PingStatusAndCounts : Prop :=
  (∀ (s : State) (o : Origin) (r : Request),
     (s.takes o r 0x01 → exec .ping s = .next ((s.replyData r.body).handTo o r)) ∧
     (s.takes o r 0x02 → exec .status s = .next ((s.replyData s.statusBytes).handTo o r)) ∧
     s.statusBytes.length = 47) ∧
  (∀ (s : State) (o : Origin) (r : Request) (b : Byte), s.takes o r 0x32 → r.body = [b] →
     (b = 0 → exec .counts s = .next ((s.replyData (s.countList.flatMap (natBytes 2))).handTo o r)) ∧
     (b = 1 → exec .counts s = .next ((s.clearCounts.replyData (s.countList.flatMap (natBytes 2))).handTo o r)) ∧
     (b ≠ 0 → b ≠ 1 → exec .counts s = .next ((s.reply .badIndex).handTo o r)) ∧
     s.clearCounts.countList = List.replicate 18 0 ∧ (s.countList.flatMap (natBytes 2)).length = 36) ∧
  (∀ s : State,
     let bit (b : Bool) (i : Nat) : Nat := if b then 2 ^ i else 0
     let kinds (pick : CauseRecord → Bool) : List Byte :=
       natBytes 4 (bitmap (allKinds.map fun k => s.cause.records.any fun x => x.kind == k && pick x))
     let owner (t : TableId) : Nat :=
       match (s.tables.get t).owner with
       | none => 0
       | some .chassis => 1
       | some .dock => 2
     s.statusBytes =
       natBytes 1 (if s.power.state = .sleep then 1 else 0) ++
       natBytes 1 (bit (decide (s.power.settle = none)) 0 + bit s.plan.permit 1 + bit s.plan.runReq 2 +
         bit s.plan.exhausted 3 + bit (s.cond .blockage) 4 + bit s.pack.reserve 5 + bit s.cause.trip 6 +
         bit s.holdNow 7) ++
       natBytes 4 (s.power.clock / 12000) ++ natBytes 1 (motorCode s.drive.motor) ++
       natBytes 1 (modeCode s.plan.mode) ++ natBytes 4 s.plan.sReq ++ natBytes 1 s.plan.band ++
       natBytes 1 s.pack.soc ++ natBytes 2 s.pack.budget ++ natBytes 1 (probeStateCode s.pack.probe) ++
       (match s.pack.lastProbe with
        | some x => natBytes 1 (probeCode x.result) ++ natBytes 1 (bitmap x.flagged)
        | none => natBytes 1 255 ++ natBytes 1 0) ++
       natBytes 1 (pathCode s.charge.path) ++ natBytes 1 (presenceCode s.charge.presence) ++
       natBytes 1 (match s.charge.session with | some x => x.phase | none => 255) ++
       kinds (fun _ => true) ++ kinds (fun x => s.cond x.kind) ++ kinds (fun x => x.reported) ++
       natBytes 1 s.log.ring.length ++
       natBytes 2 (match s.log.ring.head? with | some x => x.seq | none => 0) ++
       natBytes 2 (match s.log.ring.getLast? with | some x => x.seq | none => 0) ++ natBytes 2 s.log.nextSeq ++
       natBytes 1 (match s.log.session with | some a => (if a.kind = .clean then 1 else 2) | none => 0) ++
       natBytes 2 (bitmap (allTables.map fun t => (s.tables.get t).waiting.isSome)) ++
       natBytes 3 (owner .channels + 4 * owner .scan + 16 * owner .drive + 64 * owner .suction + 256 * owner .band +
         1024 * owner .dirt + 4096 * owner .pack + 16384 * owner .charge + 65536 * owner .actions +
         262144 * owner .system)) ∧
  allKinds.map kindNum = List.range' 1 16 ++ List.range' 20 8 ∧ allTables.map tableNum = List.range 10 ∧
  (∀ s : State, s.countList =
    [s.frame.counts.chCrc, s.frame.counts.chHeader, s.frame.counts.chGap, s.frame.counts.chFraming,
     s.frame.counts.chEarly, s.frame.counts.chSlotFull, s.frame.counts.coCrc, s.frame.counts.coHeader,
     s.frame.counts.coEarly, s.frame.counts.coSlotFull, s.modem.rxParity, s.modem.rxStop, s.modem.rxGap,
     s.modem.rxOverrun, s.modem.replyMissed, s.frame.counts.skipped, s.pack.discards, s.log.drops])

/-- TABLE WRITE (R175): an id above 9, or entries beyond the table's last index, are BAD_INDEX, bytes that are no
whole entries BAD_LENGTH, a pending image or another origin's staging BUSY, all with nothing written; otherwise the
entries stand in staging, their origin is its owner, and every other table is as it was. TABLE READ answers whole
entries of the active or the staging image, and changes no table; a bank above 1, a count of 0 or entries beyond the
last index are BAD_INDEX, more than 59 bytes of entries BAD_LENGTH (R179). The layouts of 12 section 12.3, high byte
first and the signed fields in two's complement: entry j of those that a request carries stands at byte j times the
entry size, with its fields in the order of the layout; CHARGE entry 0 holds the settings, with three filler bytes. The
entries of an image that a write does not name stay, and the bytes written are the bytes read back. -/
def Obligations.TablesAreWrittenAndRead : Prop :=
  (∀ (s : State) (o : Origin) (r : Request) (id first : Byte) (bytes : List Byte), s.takes o r 0x10 →
     r.body = id :: first :: bytes →
     (9 < id.toNat → exec .tableWrite s = .next ((s.reply .badIndex).handTo o r)) ∧
     (∀ t, tableOfNum? id.toNat = some t →
       let x := s.tables.get t
       let count := bytes.length / entrySize t
       (bytes.length % entrySize t ≠ 0 → exec .tableWrite s = .next ((s.reply .badLength).handTo o r)) ∧
       (bytes.length % entrySize t = 0 → tableEntries t < first.toNat + count →
         exec .tableWrite s = .next ((s.reply .badIndex).handTo o r)) ∧
       (bytes.length % entrySize t = 0 → first.toNat + count ≤ tableEntries t →
         (x.waiting ≠ none ∨ (x.owner ≠ none ∧ x.owner ≠ some o) →
           exec .tableWrite s = .next ((s.reply .busy).handTo o r)) ∧
         (x.waiting = none → x.owner = none ∨ x.owner = some o →
           exec .tableWrite s = .next ((({ s with tables := s.tables.put t { x with
             staging := writeEntries x.staging first.toNat (decodeEntries t first.toNat count bytes),
             owner := some o } } : State).reply .ok).handTo o r))))) ∧
  (∀ (s : State) (o : Origin) (r : Request) (id bank first count : Byte), s.takes o r 0x11 →
     r.body = [id, bank, first, count] →
     (9 < id.toNat → exec .tableRead s = .next ((s.reply .badIndex).handTo o r)) ∧
     (∀ t, tableOfNum? id.toNat = some t →
       (1 < bank.toNat ∨ count.toNat = 0 ∨ tableEntries t < first.toNat + count.toNat →
         exec .tableRead s = .next ((s.reply .badIndex).handTo o r)) ∧
       (bank.toNat ≤ 1 → count.toNat ≠ 0 → first.toNat + count.toNat ≤ tableEntries t →
         (59 < count.toNat * entrySize t → exec .tableRead s = .next ((s.reply .badLength).handTo o r)) ∧
         (count.toNat * entrySize t ≤ 59 →
           exec .tableRead s = .next ((s.replyData ([id, bank, first] ++ encodeEntries t
             (if bank.toNat = 0 then (s.tables.get t).active else (s.tables.get t).staging) first.toNat
             count.toNat)).handTo o r))))) ∧
  (∀ (t : TableId) (first n : Nat) (bytes : List Byte), bytes.length = n * entrySize t →
     let entries := decodeEntries t first n bytes
     let u1 (k : Nat) : Int := ((bytes.getD k 0).toNat : Nat)
     let u2 (k : Nat) : Int := u1 k * 256 + u1 (k + 1)
     let u4 (k : Nat) : Int := u2 k * 65536 + u2 (k + 2)
     let s2 (k : Nat) : Int := if u2 k < 32768 then u2 k else u2 k - 65536
     let s4 (k : Nat) : Int := if u4 k < 2147483648 then u4 k else u4 k - 4294967296
     entries.length = n ∧
     (∀ j, j < n →
       let a := j * entrySize t
       entries.getD j [] =
         match t with
         | .channels =>
           [u2 a, s2 (a + 2), s2 (a + 4), s2 (a + 6), s2 (a + 8), u1 (a + 10), u1 (a + 11), u1 (a + 12)]
         | .scan => [u1 a]
         | .drive => [s4 a]
         | .suction => [u4 a, u4 (a + 4)]
         | .band => [u4 a, u2 (a + 4), u2 (a + 6), u2 (a + 8), u2 (a + 10)]
         | .dirt => [s4 a]
         | .pack => [s4 a]
         | .charge =>
           if first + j = 0 then
             [u1 a, s2 (a + 1), s2 (a + 3), s2 (a + 5), u2 (a + 7), u1 (a + 9), u1 (a + 10), u1 (a + 11)]
           else [u2 a, u2 (a + 2), u1 (a + 4), u1 (a + 5), u2 (a + 6), u2 (a + 8), u1 (a + 10), u1 (a + 11)]
         | .actions => [u1 a, u2 (a + 1), u1 (a + 3), u1 (a + 4)]
         | .system => [s4 a]) ∧
     ∀ img : Image, first + n ≤ img.length →
       encodeEntries t (writeEntries img first entries) first n = bytes ∧
       (writeEntries img first entries).length = img.length ∧
       ∀ i, (writeEntries img first entries).getD i [] =
         if first ≤ i ∧ i < first + n then entries.getD (i - first) [] else img.getD i [])

/-- TABLE ACTIVATE (R176, R177): an id above 9 is BAD_INDEX, and BUSY as for a write; a staging image that fails its
check is BAD_TABLE with the first failing index and nothing changed; one that passes waits for its effect point,
PENDING, where the table defers it, and is taken up at once, OK, otherwise, the owner released either way. Taken up at
once, the staging image becomes active, an ACTIONS one with each action at least its floor (R146), a SYSTEM one with
its period clamped to 20..2000 and floored to a multiple of 10 (R180), with what the change brings about: DRIVE clamps
S_t to the new speed_max (R23); BAND loads the thresholds of the band in use and starts a band blank (R77); ACTIONS
sets the trip latch where a present condition's action becomes TRIP (R146); SYSTEM restarts the telemetry timer and an
active keep-alive window, and an idle timeout already reached enters SLEEP (R180, R184). TABLE DISCARD copies active
into staging and releases the owner (R178). An image that waits is taken up as active at its effect point, with
TABLE_ACTIVATED and the table's id (R177): CHANNELS, SCAN, DIRT and PACK always wait, DRIVE in a driving state, until
RUN, COAST or STOPPED is entered or a revolution completes (R23; O13), and CHARGE while a session is open. The check of
each table (01 R10, R12; R22; 03 R61; 04 R74, R77; 05 R86; 06 R118; R146; R180) answers the lowest index that fails,
none where all pass; SCAN's answers 0 for the count, then the lowest slot, then the lowest channel missing. An ACTIONS
image that gives TRIP with the latch already set records no occurrence (log 48). -/
def Obligations.TablesActivateAndDiscard : Prop :=
  (∀ (s : State) (o : Origin) (r : Request) (id : Byte), r.body = [id] → 9 < id.toNat →
    (s.takes o r 0x12 → exec .tableActivate s = .next ((s.reply .badIndex).handTo o r)) ∧
    (s.takes o r 0x13 → exec .tableDiscard s = .next ((s.reply .badIndex).handTo o r))) ∧
  (∀ (s : State) (o : Origin) (r : Request) (id : Byte) (t : TableId), r.body = [id] → tableOfNum? id.toNat = some t →
    let x := s.tables.get t
    (s.takes o r 0x12 →
      (x.waiting ≠ none ∨ (x.owner ≠ none ∧ x.owner ≠ some o) →
        exec .tableActivate s = .next ((s.reply .busy).handTo o r)) ∧
      (x.waiting = none → x.owner = none ∨ x.owner = some o →
        (∀ i, checkTable t x.staging = some i →
          exec .tableActivate s =
            .next (({ state := s, status := .badTable, data := natBytes 1 i, tag := .plain } : Reply).handTo o r)) ∧
        (checkTable t x.staging = none → s.defers t = true →
          exec .tableActivate s = .next ((({ s with tables := s.tables.put t { x with
            owner := none, waiting := some x.staging } } : State).reply .pending).handTo o r)) ∧
        (checkTable t x.staging = none → s.defers t = false →
          let taken : State := { s with tables := s.tables.put t { x with
            owner := none, active := takenImage t x.staging } }
          let restarted : State := { taken with frame := { s.frame with
            telTimer := if taken.systemField 0 = 0 then none else some (12000 * taken.systemField 1),
            keep := if taken.keepActive = true ∧ s.frame.keep ≠ .idle then .running true 0 else s.frame.keep } }
          ∃ u : State,
            exec .tableActivate s = .next ((u.settled.reply .ok).handTo o r) ∧
            (u.settled.tables.get t).active = takenImage t x.staging ∧ (u.settled.tables.get t).owner = none ∧
            (u.settled.tables.get t).waiting = none ∧
            (t = .suction ∨ t = .charge → u = taken) ∧
            (t = .drive → u = { taken with drive := { s.drive with
              sT := min s.drive.sT (field x.staging 15 0).toNat } }) ∧
            (t = .band → u = { taken with dirt := { s.dirt with
              armA := fieldNat x.staging s.plan.band 1, relL := fieldNat x.staging s.plan.band 2,
              bandBlank := some (12000 * 50) } }) ∧
            (t = .actions →
              ((∃ k, s.cond k = true ∧ taken.actionOf k = 3 ∧ s.actionOf k ≠ 3) → u = taken.setTrip) ∧
              ((∀ k, s.cond k = true → taken.actionOf k = 3 → s.actionOf k = 3) → u = taken)) ∧
            (t = .system → u = if restarted.idleReached = true then restarted.enterSleep else restarted)))) ∧
    (s.takes o r 0x13 →
      (x.waiting ≠ none ∨ (x.owner ≠ none ∧ x.owner ≠ some o) →
        exec .tableDiscard s = .next ((s.reply .busy).handTo o r)) ∧
      (x.waiting = none → x.owner = none ∨ x.owner = some o →
        exec .tableDiscard s = .next ((({ s with tables := s.tables.put t { x with
          staging := x.active, owner := none } } : State).reply .ok).handTo o r)))) ∧
  (∀ img : Image,
    (∀ t, t ≠ .actions → t ≠ .system → takenImage t img = img) ∧
    takenImage .system img = img.set 1 [max 20 (min 2000 (field img 1 0)) / 10 * 10] ∧
    (∀ i a rest, i < 16 → img.getD i [] = a :: rest →
      (takenImage .actions img).getD i [] =
        max a ([2, 0, 0, 1, 0, 2, 2, 2, 0, 0, 2, 0, 0, 3, 0, 0].getD i 0) :: rest)) ∧
  (∀ (s : State) (t : TableId),
    ((s.tables.get t).waiting = none → s.takeUp t = s) ∧
    (∀ img, (s.tables.get t).waiting = some img →
      s.takeUp t = ({ s with tables := s.tables.put t { s.tables.get t with
        active := img, waiting := none } } : State).occur .tableActivated (tableNum t) 0) ∧
    (∀ (y : TableSlot) (v : TableId), (s.tables.put t y).get v = if v = t then y else s.tables.get v)) ∧
  (∀ s : State,
    let x := s.tables.drive
    let taken : TableSlot := { x with active := x.waiting.getD x.active, waiting := none }
    (∀ t, s.defers t = true ↔
      t ∈ [TableId.channels, .scan, .dirt, .pack] ∨
      (t = .drive ∧ s.drive.motor ∈ [MotorState.align, .rampOpen, .capture, .run, .probe]) ∨
      (t = .charge ∧ s.charge.session ≠ none)) ∧
    (x.waiting = none → s.takeUpDrive = s) ∧
    (∀ img, x.waiting = some img →
      s.takeUpDrive = { s.takeUp .drive with drive := { s.drive with
        sT := min s.drive.sT (field img 15 0).toNat,
        duty := if s.drive.motor = .run then min (field img 11 0).toNat (max (field img 10 0).toNat s.drive.duty)
          else s.drive.duty } }) ∧
    s.enterRun.tables.drive = taken ∧ s.enterCoast.tables.drive = taken ∧ s.enterStopped.tables.drive = taken) ∧
  (∀ img : Image,
    let x (i j : Nat) : Int := field img i j
    let v (i : Nat) : Int := field img i 0
    let within (lo a hi : Int) : Prop := lo ≤ a ∧ a ≤ hi
    let fits (ranges : List (Int × Int)) (i : Nat) : Prop :=
      within (ranges.getD i (0, 0)).1 (v i) (ranges.getD i (0, 0)).2
    let first (t : TableId) (good : Nat → Prop) : Prop :=
      (checkTable t img = none ↔ ∀ i, i < tableEntries t → good i) ∧
      (∀ k, checkTable t img = some k ↔ k < tableEntries t ∧ ¬ good k ∧ ∀ i, i < k → good i)
    let cause (c : Int) : Prop := c ∈ [(0 : Int), 1, 4, 6, 8, 9, 14]
    let scanned (c : Nat) : Prop := ∃ k : Nat, 1 ≤ k ∧ (k : Int) ≤ v 0 ∧ v k = (c : Int)
    first .channels (fun i => within 0 (x i 0) 4095 ∧ x i 3 ≤ x i 4 ∧ within 1 (x i 7) 15 ∧ cause (x i 5) ∧
        cause (x i 6)) ∧
    (¬ within 1 (v 0) 16 → checkTable .scan img = some 0) ∧
    (within 1 (v 0) 16 →
      (∀ k : Nat, 1 ≤ k → (k : Int) ≤ v 0 → ¬ within 3 (v k) 15 → (∀ j, 1 ≤ j → j < k → within 3 (v j) 15) →
        checkTable .scan img = some k) ∧
      ((∀ k : Nat, 1 ≤ k → (k : Int) ≤ v 0 → within 3 (v k) 15) →
        (∀ c, 4 ≤ c → c ≤ 13 → ¬ scanned c → (∀ d, 4 ≤ d → d < c → scanned d) → checkTable .scan img = some c) ∧
        ((∀ c, 4 ≤ c → c ≤ 13 → scanned c) → checkTable .scan img = none))) ∧
    first .drive (fits [(500, 12000), (50, 1000), (200, 20000), (1, 1000), (100, v 2 - 1), (1, 1000), (0, 3), (20, 2000),
      (0, 65535), (0, 65535), (0, 4094), (v 10 + 1, 4095), (1, 512), (0, 10000), (0, 10000),
      ((10000000 / (v 4).toNat : Nat), 130000), (1000, 45000)]) ∧
    first .suction (fun i => within 0 (x i 0) 130000 ∧ within 0 (x i 1) 130000) ∧
    first .band (fun i =>
      within 1000 (x i 0) 200000 ∧ within 1 (x i 1) 4095 ∧ within 0 (x i 2) 4094 ∧ within 0 (x i 3) 2000 ∧
      within 50 (x i 4) 10000 ∧ x i 2 < x i 1 ∧ (i ≠ 0 → x (i - 1) 0 < x i 0) ∧ (i = 7 → 130000 ≤ x i 0)) ∧
    first .dirt (fun i =>
      fits ([(2, 80), (50, 1000), (0, 4095), (0, 1024), (0, 65535), (0, 65535), (0, 65535), (0, 65535), (0, 65535),
        (0, 65535), (1, 15)] ++ (List.replicate 6 [((0 : Int), (4096 : Int)), (1, 800), (0, 255)]).flatten) i ∧
      (i = 1 → v 1 % 10 = 0) ∧ (i = 5 ∨ i = 6 → v (i - 1) < v i) ∧ (7 ≤ i ∧ i ≤ 9 → v i < v (i - 3)) ∧
      (i = 8 ∨ i = 9 → v (i - 1) < v i) ∧ (14 ≤ i → i % 3 ≠ 1 → v (i - 3) ≤ v i)) ∧
    first .pack (fun i =>
      (12 ≤ i ∧ i < 24 ∧ v 11 ≤ ((i - 12) / 2 : Nat)) ∨
      (fits ([(2500, 3600), (2000, 3600), (2000, 3600), (v 4, v 5), (20, 1499), (v 4 + 1, 1500), (1000, 45000),
          (0, v 6 - 1000), (1, 45000), (0, 50), (500, 20000), (1, 6)] ++
          (List.replicate 6 [((-400 : Int), (1000 : Int)), (0, 45000)]).flatten ++
          (List.replicate 6 [((2500 : Int), (4500 : Int)), (0, 100)]).flatten) i ∧
        ((14 ≤ i ∧ i < 24 ∧ i % 2 = 0) ∨ 26 ≤ i → v (i - 2) < v i) ∧ (i = 25 → v i = 0) ∧ (i = 35 → v i = 100))) ∧
    first .charge (fun i =>
      (i = 0 → within 1 (x 0 0) 8 ∧ within (-400) (x 0 1) 1000 ∧ within (-400) (x 0 2) 1000 ∧
        within (-400) (x 0 3) 1000 ∧ within 2 (x 0 4) 500 ∧ x 0 1 < x 0 3 ∧ within (x 0 1) (x 0 2) (x 0 3)) ∧
      (i ≠ 0 → (i : Int) ≤ x 0 0 →
        within 0 (x i 0) 4000 ∧ within 3000 (x i 1) 4500 ∧ within 0 (x i 3) 5 ∧
        (1 ≤ x i 3 → x i 3 ≤ 3 → within 0 (x i 4) 5000) ∧ (x i 3 = 4 → within 1 (x i 4) 4000) ∧
        (x i 3 = 5 → within 1 (x i 4) 65535) ∧ within 0 (x i 5) 65535 ∧ x i 6 < x 0 0 ∧
        (x i 7 = 255 ∨ x i 7 < x 0 0))) ∧
    first .actions (fun i =>
      within 0 (x i 0) 3 ∧ within 0 (x i 1) 45000 ∧ within 0 (x i 2) 3 ∧ within 0 (x i 3) 1) ∧
    first .system (fun i =>
      (i = 0 → within 0 (v 0) 15) ∧ (i = 2 → v 2 = 0 ∨ within 10 (v 2) 200) ∧
      (i = 3 → within 50 (v 3) 5000 ∧ v 2 < v 3) ∧ (i = 4 → within 0 (v 4) 1) ∧
      (i = 5 → v 5 = 0 ∨ within 30 (v 5) 3600) ∧ (i = 6 → within 0 (v 6) 1)))

/-- RUN PERMIT and MODE SET (04 R69, R70): a code in range sets the permit or the mode, followed by what the change
calls for, and is answered OK; any other code is BAD_INDEX and changes nothing. KEEPALIVE is answered OK (08 R156):
with the window IDLE it changes nothing; early, it raises LINK_WATCHDOG; in the window or after its expiry it ends it;
the window runs from 0 either way; a KEEPALIVE comes when it is served from its slot (log 40). The keep-alive window
that reaches its upper limit (R156) expires, and LINK_WATCHDOG is present. The check (R155) is active in AWAKE with the
permit GRANTED and the SYSTEM enable on. With it a window that was IDLE runs from 0, one that was not goes on; where it
is not active the window is IDLE, and LINK_WATCHDOG ends with a window that was not. This is formed first of what
`settled` forms (O16), and what is formed after it leaves it so. -/
def Obligations.PermitModeAndKeepalive : Prop :=
  (∀ (s : State) (o : Origin) (r : Request) (b : Byte), r.body = [b] →
     (s.takes o r 0x20 →
       (b = 0 → exec .runPermit s =
         .next (((({ s with plan := { s.plan with permit := false } } : State).settled).reply .ok).handTo o r)) ∧
       (b = 1 → exec .runPermit s =
         .next (((({ s with plan := { s.plan with permit := true } } : State).settled).reply .ok).handTo o r)) ∧
       (1 < b.toNat → exec .runPermit s = .next ((s.reply .badIndex).handTo o r))) ∧
     (s.takes o r 0x21 →
       (b = 0 → exec .modeSet s =
         .next (((({ s with plan := { s.plan with mode := .eco } } : State).settled).reply .ok).handTo o r)) ∧
       (b = 1 → exec .modeSet s =
         .next (((({ s with plan := { s.plan with mode := .auto } } : State).settled).reply .ok).handTo o r)) ∧
       (b = 2 → exec .modeSet s =
         .next (((({ s with plan := { s.plan with mode := .boost } } : State).settled).reply .ok).handTo o r)) ∧
       (2 < b.toNat → exec .modeSet s = .next ((s.reply .badIndex).handTo o r)))) ∧
  (∀ (s : State) (o : Origin) (r : Request), s.takes o r 0x22 →
     let again : State := { s with frame := { s.frame with keep := .running false 0 } }
     (s.frame.keep = .idle → exec .keepalive s = .next ((s.reply .ok).handTo o r)) ∧
     (∀ elapsed, s.frame.keep = .running false elapsed → elapsed < 12000 * s.systemField 2 →
       exec .keepalive s = .next ((((again.raise .linkWatchdog 0).settled).reply .ok).handTo o r)) ∧
     (∀ elapsed, s.frame.keep = .running false elapsed → 12000 * s.systemField 2 ≤ elapsed →
       exec .keepalive s = .next ((((again.endCond .linkWatchdog).settled).reply .ok).handTo o r)) ∧
     (∀ elapsed, s.frame.keep = .running true elapsed →
       exec .keepalive s = .next ((((again.endCond .linkWatchdog).settled).reply .ok).handTo o r)) ∧
     (s.frame.keep = .expired →
       exec .keepalive s = .next ((((again.endCond .linkWatchdog).settled).reply .ok).handTo o r))) ∧
  (∀ (s : State) (first : Bool) (elapsed : Nat), s.awake = true → s.frame.keep = .running first elapsed →
     12000 * s.systemField 3 ≤ elapsed → s.keepActive = true → s.cause.present.length = 16 →
     ∃ t, exec .keepaliveWindowExpiry s = .next t ∧ t.frame.keep = .expired ∧ t.cond .linkWatchdog = true ∧
       t.acq = s.acq ∧ t.modem = s.modem ∧ t.pending = s.pending ∧ t.plan.permit = s.plan.permit) ∧
  (∀ s : State,
     (s.keepActive = true ↔ s.power.state = .awake ∧ s.plan.permit = true ∧ s.systemField 4 = 1) ∧
     s.settled.keepActive = s.keepActive ∧
     (s.keepActive = true → s.frame.keep = .idle →
       s.formKeep = { s with frame := { s.frame with keep := .running true 0 } } ∧
       s.settled.frame.keep = .running true 0) ∧
     (s.keepActive = true → s.frame.keep ≠ .idle → s.formKeep = s ∧ s.settled.frame.keep = s.frame.keep) ∧
     (s.keepActive = false → s.settled.frame.keep = .idle ∧
       (s.frame.keep = .idle → s.formKeep = s) ∧
       (s.frame.keep ≠ .idle →
         s.formKeep = ({ s with frame := { s.frame with keep := .idle } } : State).endCond .linkWatchdog ∧
         (s.cause.present.length = 16 → s.settled.cond .linkWatchdog = false))))

/-- CAUSE (08 R153): the unreported record of highest priority, and of lowest kind number among equals, is answered (12
section 12.4) and then marked reported while its condition is present, removed otherwise; with no unreported record the
answer is NONE. CLEAR TRIP (08 R150): STATE with nothing changed while a condition whose action is TRIP is present;
otherwise OK with the latch clear, followed by what the clearing calls for. The attention line (R154) is low exactly
while, outside SHIP, some unreported record calls for it: of a condition kind by the attention enable of its ACTIONS
entry, of an info kind by the info-attention flag of SYSTEM. -/
def Obligations.CauseAndClearTrip : Prop :=
  (∀ (s : State) (o : Origin) (q : Request), s.takes o q 0x30 →
     ((∀ r, r ∈ s.cause.records → r.reported = true) →
       exec .cause s = .next ((s.reply .none).handTo o q)) ∧
     (∀ r, r ∈ s.cause.records → r.reported = false → (s.cause.records.map (·.kind)).Nodup →
       (∀ x, x ∈ s.cause.records → x.reported = false → x.kind ≠ r.kind →
         s.priorityOf x.kind < s.priorityOf r.kind ∨
         (s.priorityOf x.kind = s.priorityOf r.kind ∧ kindNum r.kind < kindNum x.kind)) →
       exec .cause s = .next ((({ s with cause := { s.cause with
         records := if s.cond r.kind = true then
             s.cause.records.map (fun x => if x.kind = r.kind then { x with reported := true } else x)
           else s.cause.records.filter (fun x => !decide (x.kind = r.kind)) } } : State).replyData
         (natBytes 1 (kindNum r.kind) ++ natBytes 1 (s.priorityOf r.kind) ++ natBytes 4 r.firstMs ++
          natBytes 1 r.count ++ natBytes 1 (if s.cond r.kind = true then 1 else 0) ++ natBytes 1 r.detail ++
          natBytes 1 r.detail2)).handTo o q))) ∧
  (∀ (s : State) (o : Origin) (r : Request), s.takes o r 0x31 →
     ((∃ k, s.cond k = true ∧ s.actionOf k = 3) → exec .clearTrip s = .next ((s.reply .state).handTo o r)) ∧
     ((∀ k, s.cond k = true → s.actionOf k ≠ 3) →
       exec .clearTrip s =
         .next (((({ s with cause := { s.cause with trip := false } } : State).settled).reply .ok).handTo o r))) ∧
  (∀ s : State, s.attentionLow = true ↔
     s.power.state ≠ .ship ∧ ∃ r, r ∈ s.cause.records ∧ r.reported = false ∧
       (kindNum r.kind ≤ 16 → field s.tables.actions.active (kindNum r.kind - 1) 3 = 1) ∧
       (20 ≤ kindNum r.kind → field s.tables.system.active 6 0 = 1))

/-- 600,000 ms of idle time close the open CLEAN session with reason IDLE (R161): its record, with the figures of its
accumulator, enters the ring; its duration is that of the time since reset, which saturates (log 24). LOG WINDOW and LOG
NEXT of either link (09 R165, R166): an accepted window has its cursor at its start
for its direction; LOG NEXT without a window is STATE; otherwise it answers the record held at the cursor, or GONE,
and the cursor advances, wrapping within the window, or ABSENT with the cursor where it is. A record's bytes carry
every field of its kind, an absent one as 0 with its presence bit 0 (12 R191). The sequence order (R164), d being the
forward distance from a number to N on the circle of 65,535: ahead is d = 0 and the 32,768 numbers from N onward, and
ring order starts at the number 32,767 behind N. -/
def Obligations.SessionLogClosesAndIsRead : Prop :=
  let recordBytes (x : LogRecord) : List Byte :=
    natBytes 1 (if x.kind = .clean then 1 else 2) ++
    natBytes 1 (match x.reason with
      | .docked => 0 | .idle => 1 | .sleep => 2 | .ship => 3 | .undocked => 4 | .trip => 5 | .linkLost => 6
      | .resetLost => 7) ++
    natBytes 1 ((if x.common.isSome then 31 else 0) + (if x.charge.isSome then 96 else 0) +
      (if x.learned.isSome then 128 else 0)) ++
    (match x.common with
     | some y =>
       natBytes 4 y.duration ++ natBytes 1 y.startSoc ++ natBytes 1 y.endSoc ++ intBytes 2 y.chargeDelta ++
       natBytes 4 (bitmap (allKinds.map fun k => y.causes.contains k))
     | none => List.replicate 12 0) ++
    (match x.clean with
     | some y =>
       natBytes 2 y.runS ++ y.bins.flatMap (natBytes 2) ++ natBytes 2 y.rejected ++ natBytes 2 y.cont ++
       natBytes 1 y.peakLevel ++ natBytes 2 y.ecoS ++ natBytes 2 y.autoS ++ natBytes 2 y.boostS ++ natBytes 2 y.starts
     | none =>
       natBytes 1 (match x.charge with | some y => y.1 | none => 0) ++
       natBytes 2 (match x.charge with | some y => y.2 | none => 0) ++
       natBytes 2 (match x.learned with | some y => y | none => 0))
  (∀ (s : State) (a : Session), s.awake = true → s.log.session = some a → a.kind = .clean →
     12000 * 600000 ≤ s.log.idleTime →
     exec .sessionIdleTime s = .next (s.writeRecord
       { seq := 0, kind := .clean, reason := .idle,
         common := some { duration := (s.clockMs - a.openMs) / 1000, startSoc := a.startSoc, endSoc := s.pack.soc,
                          chargeDelta := clampInt (-32768) 32767 (roundDiv (-a.chargeSum) 3600000),
                          causes := a.causes },
         clean := some { runS := min 65535 (a.runTime / 12000000), bins := a.bins, rejected := a.rejected,
                         cont := a.cont, peakLevel := a.peakLevel, ecoS := min 65535 (a.ecoTime / 12000000),
                         autoS := min 65535 (a.autoTime / 12000000), boostS := min 65535 (a.boostTime / 12000000),
                         starts := a.starts },
         charge := none, learned := none })) ∧
  (∀ (s : State) (o : Origin) (r : Request),
     (∀ (a b c d dir : Byte), s.takes o r 0x40 → r.body = [a, b, c, d, dir] →
       let first := a.toNat * 256 + b.toNat
       let last := c.toNat * 256 + d.toNat
       (first = 0 ∨ last = 0 ∨ 1 < dir.toNat →
         exec .logWindow s = .next ((s.reply .badIndex).handTo o r)) ∧
       (first ≠ 0 → last ≠ 0 → dir.toNat ≤ 1 → s.ringPlace last < s.ringPlace first →
         exec .logWindow s = .next ((s.reply .badIndex).handTo o r)) ∧
       let win : ReadWindow :=
         { first := first, last := last, backward := decide (dir.toNat = 1),
           cursor := if dir.toNat = 1 then last else first }
       (first ≠ 0 → last ≠ 0 → dir.toNat ≤ 1 → s.ringPlace first ≤ s.ringPlace last →
         exec .logWindow s =
           .next (((s.withWindow o win).reply .ok).handTo o r))) ∧
     (s.takes o r 0x41 →
       (s.log.window o = none → exec .logNext s = .next ((s.reply .state).handTo o r)) ∧
       (∀ w, s.log.window o = some w →
         let moved : ReadWindow := { w with cursor :=
           if w.backward = true then
             (if w.cursor = w.first then w.last else if w.cursor ≤ 1 then 65535 else w.cursor - 1)
           else if w.cursor = w.last then w.first else if w.cursor ≥ 65535 then 1 else w.cursor + 1 }
         let on := s.withWindow o moved
         (s.isAhead w.cursor = true →
           exec .logNext s = .next ((s.replyData (natBytes 1 2 ++ natBytes 2 w.cursor)).handTo o r)) ∧
         (∀ x, s.isAhead w.cursor = false → s.log.ring.find? (fun y => y.seq == w.cursor) = some x →
           exec .logNext s =
             .next ((on.replyData (natBytes 1 0 ++ natBytes 2 w.cursor ++ recordBytes x)).handTo o r)) ∧
         (s.isAhead w.cursor = false → s.log.ring.find? (fun y => y.seq == w.cursor) = none →
           exec .logNext s = .next ((on.replyData (natBytes 1 1 ++ natBytes 2 w.cursor)).handTo o r))))) ∧
  (∀ (s : State) (w : ReadWindow),
     s.log.window .chassis = s.log.winChassis ∧ s.log.window .dock = s.log.winDock ∧
     s.withWindow .chassis w = { s with log := { s.log with winChassis := some w } } ∧
     s.withWindow .dock w = { s with log := { s.log with winDock := some w } }) ∧
  (∀ (s : State) (seq : Nat), 1 ≤ seq → seq ≤ 65535 → 1 ≤ s.log.nextSeq → s.log.nextSeq ≤ 65535 →
     let d := if seq ≤ s.log.nextSeq then s.log.nextSeq - seq else s.log.nextSeq + 65535 - seq
     (s.isAhead seq = true ↔ d = 0 ∨ 32768 ≤ d) ∧
     s.ringPlace seq = if d ≤ 32767 then 32767 - d else 32767 + 65535 - d)

/-- PROBE (05 R102): BUSY with a probe under way, STATE where it is blocked, and otherwise ACCEPTED: the motor enters
PROBE on the align vector at duty 0 and the probe PULSE 1, its "before" scan the previous one. -/
def Obligations.ProbeIsAccepted : Prop :=
  ∀ (s : State) (o : Origin) (r : Request), s.takes o r 0x50 →
    (s.pack.probe ≠ .idle → exec .probe s = .next ((s.reply .busy).handTo o r)) ∧
    (s.pack.probe = .idle →
      s.drive.motor ≠ .stopped ∨ s.charge.path ≠ .discharge ∨ s.charge.presence = .present ∨
        (∃ k, s.cond k = true ∧ s.actionOf k = 2) ∨ s.cause.trip = true ∨ s.acq.lastSet = none →
      exec .probe s = .next ((s.reply .state).handTo o r)) ∧
    (s.pack.probe = .idle → s.drive.motor = .stopped → s.charge.path = .discharge → s.charge.presence ≠ .present →
      (∀ k, s.cond k = true → s.actionOf k ≠ 2) → s.cause.trip = false → s.acq.lastSet ≠ none →
      exec .probe s = .next ((s.beginProbe.settled.reply .accepted).handTo o r) ∧
      s.beginProbe.drive.motor = .probe ∧ s.beginProbe.drive.step = 1 ∧ s.beginProbe.drive.duty = 0 ∧
      s.beginProbe.pack.probe = .pulse 1 ∧ s.beginProbe.pack.probeTime = 0 ∧
      s.beginProbe.pack.before = s.pack.prev ∧ s.beginProbe.pack.inside = none ∧ s.beginProbe.pack.figures = [] ∧
      s.beginProbe.charge = s.charge ∧ s.beginProbe.cause = s.cause ∧ s.beginProbe.tables = s.tables)

/-- SLEEP (11 R183): STATE on the path CHARGE, in the dock or with the motor not STOPPED; otherwise OK, the part asleep
with the path OPEN from DISCHARGE, the modem stopped, the telemetry idle, no window under way, and no CLEAN session
open, the open one closed SLEEP (09 R161). The idle timer that reaches its timeout does the same (R184). The wake
(R185): AWAKE with settle from 0, a dirt window begun, the receiver IDLE, telemetry from its period, the ship count 0,
the HELLO wait in the dock, and a scan in flight or begun; then the path is chosen again, and the keep-alive window and
the idle timer start where their conditions hold. A press that wakes sets the sleep chord mark (log 43 where both
wake); a start byte wakes too, as do the presses (O21), dock presence (O27) and a chassis frame (O38). Settle ends once
50 ms have run and the first scan begun since has completed (R187), in AWAKE (log 51). The idle timer (R184) runs in
AWAKE with the motor STOPPED, presence ABSENT, a timeout that is not 0 and no SHIP entry under way; it starts from 0
where these hold again, so at STOPPED entry, is idle where one fails, and goes on with a motor that stays STOPPED. A
trigger press, a button press and a chassis frame taken into its slot restart it. -/
def Obligations.SleepAndSettle : Prop :=
  (∀ s : State,
     (∀ (o : Origin) (r : Request), s.takes o r 0x60 →
       (s.charge.path = .charge ∨ s.charge.presence = .present ∨ s.drive.motor ≠ .stopped →
         exec .sleep s = .next ((s.reply .state).handTo o r)) ∧
       (s.charge.path ≠ .charge → s.charge.presence ≠ .present → s.drive.motor = .stopped →
         exec .sleep s = .next ((s.enterSleep.settled.reply .ok).handTo o r))) ∧
     (∀ time, s.awake = true → s.power.idleTimer = some time → s.systemField 5 ≠ 0 →
       12000000 * s.systemField 5 ≤ time → exec .idleTimer s = .next s.enterSleep.settled) ∧
     (s.power.resetPending = false →
       let t := s.enterSleep.settled
       t.power.state = .sleep ∧ t.charge.path ≠ .discharge ∧ t.modem.carrier = false ∧ t.modem.rx = .off ∧
       t.modem.fifo = [] ∧ t.modem.buf = none ∧ t.modem.window = none ∧ t.modem.tx = none ∧
       t.frame.telTimer = none ∧ t.frame.telem = [] ∧ t.frame.sending = s.frame.sending ∧
       t.frame.txBuf = s.frame.txBuf ∧ t.frame.keep = .idle ∧ t.dirt.det = Detector.quiet ∧ t.dirt.winSamples = 0 ∧
       t.pack.shipCount = 0 ∧ t.power.idleTimer = none ∧ t.plan.runReq = false ∧ t.acq.sleepTimer = 0 ∧
       t.acq.latest = s.acq.latest ∧ t.plan.mode = s.plan.mode ∧
       (∀ a, t.log.session = some a → a.kind ≠ .clean) ∧
       (∀ a, s.log.session = some a → a.kind = .clean →
         ∃ x, x ∈ t.log.ring ∧ x.seq = s.log.nextSeq ∧ x.kind = .clean ∧ x.reason = .sleep))) ∧
  (∀ s : State,
     (s.power.state ≠ .sleep → s.wake = s ∧ ∀ c, s.wakeBy c = s) ∧
     (s.power.state = .sleep →
       let t := s.wake
       t.power = { s.power with state := .awake, settle := some 0, settleScan := false } ∧
       t.dirt = { s.dirt with
         det := Detector.quiet, winSamples := 0, winBlanked := 0, bins := List.replicate 6 0, rejected := 0,
         contTally := 0, optSum := 0, optCount := 0 } ∧
       t.modem = { s.modem with rx := .idle, toneRun := 0 } ∧
       t.frame = { s.frame with
         telTimer := if s.systemField 0 = 0 then none else some (12000 * s.systemField 1) } ∧
       t.pack = { s.pack with shipCount := 0 } ∧ t.drive = s.drive ∧ t.plan = s.plan ∧
       t.charge = { s.charge with
         helloWait := if s.charge.presence = .present then some (12000 * 2000) else s.charge.helloWait } ∧
       (s.acq.scanning = true → t.acq = { s.acq with scanFresh := false }) ∧
       (s.acq.scanning = false → t.acq.scanning = true ∧ t.acq.scanFresh = true ∧ t.acq.scanAsleep = false ∧
         t.acq.slotIndex = 0 ∧ t.acq.slotFrames = 0 ∧ t.acq.accSum = 0 ∧ t.acq.accCount = 0) ∧
       (∀ c, s.wakeBy c = { t with power := { t.power with sleepChord := some c } }) ∧
       (s.charge.path = .opened → s.charge.dwell = none → s.charge.presence = .absent → s.cause.trip = false →
         t.settled.charge.path = .discharge) ∧
       (s.plan.permit = true → s.systemField 4 = 1 → s.frame.keep = .idle →
         t.settled.frame.keep = .running true 0) ∧
       (s.drive.motor = .stopped → s.drive.demand = false → s.charge.presence = .absent → s.systemField 5 ≠ 0 →
         s.power.shipPending = false → s.power.idleTimer = none → t.settled.power.idleTimer = some 0) ∧
       (s.live = true → s.frame.chPar.state = .hunt →
         exec (.chassisCharacter 0x5C#8 true) s =
           .next (({ s with frame := { s.frame with
             gapTime := 0, chPar := { Parser.hunting with state := .length } } } : State).wake.settled)))) ∧
  (∀ (s : State) (time : Nat), s.awake = true → s.power.settle = some time → 12000 * 50 ≤ time →
     s.power.settleScan = true →
     ∃ t, exec .settleEnd s = .next t ∧ t.power.settle = none ∧ t.power.state = .awake ∧ t.acq = s.acq ∧
       t.modem = s.modem ∧ t.plan.trigger = s.plan.trigger ∧ t.plan.permit = s.plan.permit ∧ t.pending = s.pending) ∧
  (∀ s : State,
     let runs (u : State) : Prop := u.power.state = .awake ∧ u.drive.motor = .stopped ∧ u.charge.presence = .absent ∧
       u.systemField 5 ≠ 0 ∧ u.power.shipPending = false
     let from0 (u : State) : Prop := runs u → u.power.idleTimer = some 0
     (runs s → s.power.idleTimer = none →
       s.formIdle = { s with power := { s.power with idleTimer := some 0 } }) ∧
     (runs s → s.power.idleTimer ≠ none → s.formIdle = s) ∧
     (¬ runs s → s.formIdle = { s with power := { s.power with idleTimer := none } }) ∧
     (s.settled.power.idleTimer ≠ none ↔ runs s.settled) ∧
     (s.power.idleTimer = none → from0 s.settled) ∧
     (∀ time, s.power.idleTimer = some time → s.drive.motor = .stopped → runs s.settled →
       s.settled.power.idleTimer = some time) ∧
     (s.live = true → 12000 * 20 ≤ s.plan.trigTime → s.plan.trigRaw = true → s.plan.trigger = false →
       ∃ t, exec .triggerPress s = .next t ∧ from0 t) ∧
     (s.live = true → 12000 * 20 ≤ s.plan.btnTime → s.plan.btnRaw = true → s.plan.button = false →
       ∃ t, exec .buttonPress s = .next t ∧ from0 t) ∧
     (∀ b : Byte, s.live = true → s.frame.chPar.state = .crc2 →
       crcBytes (BitVec.ofNat 8 s.frame.chPar.bytes.length :: s.frame.chPar.bytes) = [s.frame.chPar.crcHigh, b] →
       s.frame.startup = none → s.frame.chSlot = none →
       ∃ t, exec (.chassisCharacter b true) s = .next t ∧ from0 t) ∧
     (s.drive.motor = .coast → s.power.idleTimer = none → 12000 * 20 ≤ s.drive.quiet →
       ∃ t, exec .coastStop s = .next t ∧ from0 t))

/-- SHIP and RESET (11 R186, R188): SHIP is STATE in the dock or with the motor not STOPPED, and otherwise OK with the
run request held down until its answer has left; then the part is in SHIP with the scan abandoned and the transmitter
stopped. RESET is OK; the chassis answer's end takes the soft reset. -/
def Obligations.ShipAndResetFollowTheirAnswer : Prop :=
  ∀ s : State,
    (∀ (o : Origin) (r : Request), s.takes o r 0x61 →
      (s.charge.presence = .present ∨ s.drive.motor ≠ .stopped →
        exec .ship s = .next ((s.reply .state).handTo o r)) ∧
      (s.charge.presence ≠ .present → s.drive.motor = .stopped →
        let u : State := ({ s with power := { s.power with shipPending := true } } : State).settled
        exec .ship s = .next (({ state := u, status := .ok, data := [], tag := .shipOk } : Reply).handTo o r))) ∧
    (∀ (o : Origin) (r : Request), s.takes o r 0x62 →
      let u : State := { s with power := { s.power with resetPending := true } }
      exec .reset s = .next (({ state := u, status := .ok, data := [], tag := .resetOk } : Reply).handTo o r)) ∧
    (∀ (bytes : List Byte) (time : Nat), s.live = true → 12 * (10 * bytes.length) ≤ time →
      (s.frame.sending = some ({ bytes := bytes, tag := .resetOk }, time) →
        ∃ t : State, exec .chassisFrameSent s = .next (t.takeReset .soft) ∧ t.pack = s.pack ∧ t.tables = s.tables ∧
          t.plan = s.plan ∧ t.log = s.log ∧ t.power = s.power) ∧
      (s.frame.sending = some ({ bytes := bytes, tag := .shipOk }, time) → s.power.shipPending = true →
        s.power.contactMv ≤ 20000 →
        ∃ t, exec .chassisFrameSent s = .next t ∧ t.power.state = .ship ∧ t.acq.scanning = false ∧
          t.frame.sending = none ∧ t.frame.txBuf = none ∧ t.charge.path ≠ .discharge ∧ t.attentionLow = false ∧
          t.plan.runReq = false ∧ t.acq.latest = s.acq.latest))

/-- DOCK HELLO (06 R115, 07 R138): with presence PRESENT the record holds the current limited to 4000 mA, the voltage
and the revision, the HELLO wait is idle and the silence time 0; otherwise the record stays; either way it is answered
PART HELLO: part code, revision, path, SoC and the session's phase, FFh without one. -/
def Obligations.DockHelloSetsTheRecord : Prop :=
  ∀ (s : State) (o : Origin) (r : Request) (a b c d e : Byte), s.takes o r 0x70 → r.body = [a, b, c, d, e] →
    (s.charge.presence = .present →
      let t := ((({ s with charge := { s.charge with
        dock := some { maxCurrent := min 4000 (a.toNat * 256 + b.toNat), maxVoltage := c.toNat * 256 + d.toNat,
                       revision := e.toNat },
        helloWait := none, silence := some 0 } } : State).endCond .dockSilent).settled)
      exec .dockHello s = .next ((t.replyData t.partHello).handTo o r)) ∧
    (s.charge.presence ≠ .present →
      exec .dockHello s = .next ((s.settled.replyData s.settled.partHello).handTo o r)) ∧
    s.partHello = natBytes 2 4718 ++ natBytes 1 1 ++ natBytes 1 (pathCode s.charge.path) ++ natBytes 1 s.pack.soc ++
      natBytes 1 (match s.charge.session with | some x => x.phase | none => 255)

/-- The mismatch test at a POLL in the dock (06 R126): a difference above 300 mA runs for 2000 ms before the condition
begins, one within it as long before it ends, and a POLL on the other side ends the run. DOCK POLL (06 R125; 07 R139):
the dock's report is kept and the mismatch test made; then, on the path CHARGE, D falls by 50 mA where the highest
cell is at or above the effective ceiling, rises by 50 mA where it is at least 15 mV below it, stays between, and is
limited to C; on any other path D is 0. The effective ceiling (R115) is the smaller of the phase's ceiling and a seventh
of the dock's maximum voltage, floored. It is answered CHARGE DEMAND: D, the phase, FFh without a session,
and flags of the path CHARGE, balancing and hold, which also stands for a trip latch (log 39) and a FAULTED stage. -/
def Obligations.DockPollStepsTheDemand : Prop :=
  (∀ (s : State) (output : Nat), s.charge.presence = .present →
     let far := 300 < ((output : Int) + s.latestScanCurrent).natAbs
     (s.cond .chargeMismatch = false → ¬ far → s.mismatchTest output = s.withMismatch .none) ∧
     (s.cond .chargeMismatch = false → far → (∀ time, s.charge.mismatch ≠ .over time) →
       s.mismatchTest output = s.withMismatch (.over 0)) ∧
     (∀ time, s.cond .chargeMismatch = false → far → s.charge.mismatch = .over time →
       s.mismatchTest output = if 12000 * 2000 ≤ time then (s.withMismatch .none).raise .chargeMismatch 0 else s) ∧
     (s.cond .chargeMismatch = true → far → s.mismatchTest output = s.withMismatch .none) ∧
     (s.cond .chargeMismatch = true → ¬ far → (∀ time, s.charge.mismatch ≠ .within time) →
       s.mismatchTest output = s.withMismatch (.within 0)) ∧
     (∀ time, s.cond .chargeMismatch = true → ¬ far → s.charge.mismatch = .within time →
       s.mismatchTest output = if 12000 * 2000 ≤ time then (s.withMismatch .none).endCond .chargeMismatch else s)) ∧
  (∀ (s : State) (o : Origin) (r : Request) (a b c d : Byte), s.takes o r 0x71 → r.body = [a, b, c, d] →
     let output := a.toNat * 256 + b.toNat
     let u := (({ s with charge := { s.charge with
       report := some (output, c.toNat * 256 + d.toNat) } } : State).mismatchTest output).settled
     ∃ t : State, exec .dockPoll s = .next ((t.replyData t.chargeDemand).handTo o r) ∧
       t = { u with charge := { u.charge with demand := t.charge.demand } } ∧
       t.charge.report = some (output, c.toNat * 256 + d.toNat) ∧
       (u.charge.path ≠ .charge → t.charge.demand = 0) ∧
       (u.charge.path = .charge →
         (u.effectiveCeiling u.phaseInForce ≤ maxNat u.pack.v →
           t.charge.demand = min u.charge.cap (u.charge.demand - 50)) ∧
         (maxNat u.pack.v + 15 ≤ u.effectiveCeiling u.phaseInForce →
           t.charge.demand = min u.charge.cap (u.charge.demand + 50)) ∧
         (maxNat u.pack.v < u.effectiveCeiling u.phaseInForce →
           u.effectiveCeiling u.phaseInForce < maxNat u.pack.v + 15 →
           t.charge.demand = min u.charge.cap u.charge.demand))) ∧
  (∀ s : State,
     s.chargeDemand = natBytes 2 s.charge.demand ++
       natBytes 1 (match s.charge.session with | some x => x.phase | none => 255) ++
       natBytes 1 ((if s.charge.path = .charge then 1 else 0) + (if true ∈ s.charge.bleed then 2 else 0) +
         (if s.holdNow = true ∨ s.cause.trip = true ∨ s.charge.session.map (·.faulted) = some true then 4 else 0))) ∧
  (∀ (s : State) (p : Nat),
     (∀ d, s.charge.dock = some d → s.effectiveCeiling p = min (s.phaseField p 1) (d.maxVoltage / 7)) ∧
     (∀ x, s.charge.session = some x → s.phaseInForce = x.phase))

/-! ### Power states and resets (11) -/

/-- The reset line (R188): a fall starts the filter, a return high of 5 us ends the low, a low of 20 us takes a pin
reset in which the part stays until the line returns high. That a return high is judged when its command comes is the
model's choice (log 14). The chord timer at its limit takes a chord reset; the supply takes a power-on reset, and so
does a contact voltage above 20,000 mV in SHIP, any other contact voltage only being seen (R186, R188; the pin is the
model's choice, log 15). -/
def Obligations.ResetsAreTaken : Prop :=
  (∀ s : State,
     (s.power.lineHigh = true → s.live = true → s.power.lineLow = none →
       exec (.resetLineChange false) s =
         .next { s with power := { s.power with lineHigh := false, lineBack := 0, lineLow := some 0 } }) ∧
     (s.power.lineHigh = false → s.power.held = false →
       exec (.resetLineChange true) s =
         .next { s with power := { s.power with lineHigh := true, lineBack := 0 } }) ∧
     (s.power.lineHigh = false → s.power.held = true →
       ∃ t, exec (.resetLineChange true) s = .next t ∧ t.power.held = false ∧ t.power.lineHigh = true ∧
         t.acq.scanning = true ∧ t.pack.r = s.pack.r ∧ t.pending = s.pending) ∧
     (∀ time, s.power.lineHigh = true → s.power.lineLow = some time → 12 * 5 ≤ s.power.lineBack →
       exec .resetLineReturnHigh s = .next { s with power := { s.power with lineLow := none } }) ∧
     (∀ time, s.live = true → s.power.lineHigh = false → s.power.lineLow = some time → 12 * 20 ≤ time →
       ∃ t, exec .pinReset s = .next t ∧ t.power.held = true ∧ t.live = false ∧ t.drive = Drive.reset ∧
         t.charge = Charge.reset ∧ t.modem = Modem.reset ∧ t.cause = Causes.reset ∧ t.acq.scanning = false ∧
         t.pack.r = s.pack.r ∧ t.log.ring = s.log.ring ∧ t.pending = s.pending)) ∧
  (∀ s : State,
     (∀ time limit, s.live = true → s.power.chord = some (time, limit) → 12000 * limit ≤ time →
       exec .chordReset s = .next (s.takeReset .chord) ∧ (s.takeReset .chord).power.chordBlock = true) ∧
     exec (.powerOnReset .supply) s = .next (s.takeReset .powerOn) ∧
     (∀ mv, s.power.state ≠ .ship ∨ mv ≤ 20000 →
       exec (.powerOnReset (.contact mv)) s = .next { s with power := { s.power with contactMv := mv } }) ∧
     (∀ mv, s.power.state = .ship → 20000 < mv →
       exec (.powerOnReset (.contact mv)) s =
         .next (({ s with power := { s.power with contactMv := mv } } : State).takeReset .powerOn)))

/-- R44, and with it what every reset leaves in the other blocks (01 R17, 06 R129, 07 R143, 08 R158, 10 R182): the
motor STOPPED with every figure of the drive unit at 0, the acquisition unit empty with its first scan started, the
pack path OPEN with presence UNDECIDED, no condition present, the trip latch clear, the slots empty, the counts 0.
What survives (04 R84, 05 R108, 09 R167, 11 R189): over a power-on reset nothing; over the others R_i, Q, Q_full, the
empty mark, SoC (formed from the kept Q) and the reserve state, the ring, N and the drop count, with a RESET_LOST record
written where a CHARGE session was open; over a soft
reset also the mode and the active images, staging copied from them; every other image is built in, and no owner or
pending image is left. A pin reset is the two commands that begin and end it: the line's low, in which the part stays,
and its return high. -/
def Obligations.ResetsLeaveAndKeep : Prop :=
  let fresh (t : State) : Prop :=
    t.drive.motor = .stopped ∧ t.bridge = none ∧ t.drive.step = 1 ∧ t.drive.sM = 0 ∧ t.drive.sT = 0 ∧
    t.drive.duty = 0 ∧ t.drive.lM = 0 ∧ t.drive.integ = 0 ∧ t.drive.pLast = 0 ∧ t.drive.hold = none ∧
    t.drive.attempts = 0 ∧ t.drive.retry = none ∧ t.drive.capComms = 0 ∧ t.drive.capRun = 0 ∧ t.drive.openStep = 0 ∧
    t.drive.tLast = 0 ∧
    t.acq.latest = List.replicate 16 0 ∧ t.acq.sat = List.replicate 16 false ∧
    t.acq.lastGood = List.replicate 7 0 ∧ t.acq.lastSet = none ∧ t.acq.scanning = true ∧ t.acq.slotIndex = 0 ∧
    t.charge.path = .opened ∧ t.charge.presence = .undecided ∧ t.charge.dock = none ∧ t.charge.session = none ∧
    t.charge.demand = 0 ∧ t.modem.fifo = [] ∧ t.modem.carrier = false ∧ t.modem.tx = none ∧
    (∀ c, t.cond c = false) ∧ t.cause.trip = false ∧ t.frame.chSlot = none ∧ t.frame.coSlot = none ∧
    t.frame.startup = some (12000 * 2) ∧ t.frame.counts = LinkCounts.zero ∧ t.plan.permit = false ∧
    t.plan.runReq = false ∧ t.plan.band = 0 ∧ t.dirt.level = 0 ∧ t.pack.budget = 0 ∧ t.power.state = .awake ∧
    t.power.settle = some 0 ∧ t.power.clock = 0
  let kept (s t : State) : Prop :=
    t.pack.r = s.pack.r ∧ t.pack.q = s.pack.q ∧ t.pack.qFull = s.pack.qFull ∧ t.pack.emptyMark = s.pack.emptyMark ∧
    t.pack.soc = s.pack.soc ∧ t.pack.reserve = s.pack.reserve ∧
    (s.pack.soc = socOf s.pack.q s.pack.qFull → t.pack.soc = socOf t.pack.q t.pack.qFull) ∧
    (s.log.retained = true ∨ s.log.session.map (·.kind) = some .charge →
      t.log.ring = (if s.log.ring.length < 32 then s.log.ring else s.log.ring.drop 1) ++
        [{ seq := s.log.nextSeq, kind := .charge, reason := .resetLost, common := none, clean := none, charge := none,
           learned := none }] ∧
      t.log.nextSeq = (if s.log.nextSeq < 65535 then s.log.nextSeq + 1 else 1) ∧
      t.log.drops = (if s.log.ring.length < 32 then s.log.drops else min 65535 (s.log.drops + 1)) ∧
      t.cause.records.map (·.kind) = [.sessionLogged]) ∧
    (s.log.retained = false → s.log.session.map (·.kind) ≠ some .charge →
      t.log.ring = s.log.ring ∧ t.log.nextSeq = s.log.nextSeq ∧ t.log.drops = s.log.drops ∧ t.cause.records = []) ∧
    t.log.session = none ∧ t.log.idleTime = 0 ∧ t.log.winChassis = none ∧ t.log.winDock = none ∧
    t.log.retained = false
  let builtIn (t : State) : Prop :=
    ∀ i, t.tables.get i =
      { active := builtin i, staging := builtin i, owner := none, waiting := none }
  (∀ (s : State) (k : ResetKind),
     fresh (s.takeReset k) ∧ (s.takeReset k).pending = s.pending ∧ (k ≠ .powerOn → kept s (s.takeReset k)) ∧
     (k ≠ .soft → builtIn (s.takeReset k) ∧ (s.takeReset k).plan.mode = .auto)) ∧
  (∀ s : State,
     (s.takeReset .powerOn).pack = Pack.reset ∧ (s.takeReset .powerOn).log = Log.reset ∧
     (s.takeReset .powerOn).cause = Causes.reset ∧
     (s.takeReset .soft).plan.mode = s.plan.mode ∧
     (∀ i, (s.takeReset .soft).tables.get i =
       { active := if i = .actions then raiseToFloors (s.tables.get i).active else (s.tables.get i).active,
         staging := (s.tables.get i).active, owner := none, waiting := none })) ∧
  (∀ (s : State) (time : Nat), s.live = true → s.power.lineHigh = false → s.power.lineLow = some time →
     12 * 20 ≤ time →
     ∃ t u, exec .pinReset s = .next t ∧ t.power.held = true ∧ t.live = false ∧ t.acq.scanning = false ∧
       exec (.resetLineChange true) t = .next u ∧ u.power.held = false ∧ fresh u ∧ kept s u ∧ builtIn u ∧
       u.plan.mode = .auto ∧ u.pending = s.pending)

/-! ### Invariants -/

/-- R19's first sentence for every step: the motor is in a driving state only while the pack path is DISCHARGE. -/
def Obligations.EveryStepKeepsTheInterlock : Prop :=
  ∀ s t : State, s.Interlocked → step s = .next t → t.Interlocked

/-- Every step keeps the charge outputs within their bounds (06 R124, R125, R127): no demand and no bleeding off the
path CHARGE, the demand within the cap, at most three cells bleeding. -/
def Obligations.EveryStepKeepsTheChargeBounds : Prop :=
  ∀ s t : State, s.ChargeBounded → step s = .next t → t.ChargeBounded

/-- Every step keeps the buffers within their bounds (07 R133, 08 R151, 09 R163). -/
def Obligations.EveryStepKeepsTheBuffers : Prop :=
  ∀ s t : State, s.BuffersBounded → step s = .next t → t.BuffersBounded

/-- Every step keeps the shape of the live state and the dirt level in 0..3 (01, 03 R58). -/
def Obligations.EveryStepKeepsTheShape : Prop := ∀ s t : State, s.Shaped → step s = .next t → t.Shaped

/-- The state after reset is the one a power-on reset gives (R189): taken there, it changes nothing. The state after
reset meets every invariant. -/
def Obligations.ResetState : Prop :=
  (exec (.powerOnReset .supply) State.reset = .next State.reset) ∧
  (State.reset.Interlocked ∧ State.reset.ChargeBounded ∧ State.reset.BuffersBounded ∧ State.reset.Shaped)

end Statements
end

