-- ==== Sys2Proof/Laws/State.lean ====
section
/-! SUPPORT. The named updates of the state, field by field: each changes one field of State and no other. -/

namespace Sys2Proof.Machine.State

/-! ### setCond -/

@[simp] theorem setCond_acq (s : State) (k : CauseKind) (b : Bool) : (s.setCond k b).acq = s.acq := rfl
@[simp] theorem setCond_drive (s : State) (k : CauseKind) (b : Bool) : (s.setCond k b).drive = s.drive := rfl
@[simp] theorem setCond_plan (s : State) (k : CauseKind) (b : Bool) : (s.setCond k b).plan = s.plan := rfl
@[simp] theorem setCond_dirt (s : State) (k : CauseKind) (b : Bool) : (s.setCond k b).dirt = s.dirt := rfl
@[simp] theorem setCond_pack (s : State) (k : CauseKind) (b : Bool) : (s.setCond k b).pack = s.pack := rfl
@[simp] theorem setCond_charge (s : State) (k : CauseKind) (b : Bool) : (s.setCond k b).charge = s.charge := rfl
@[simp] theorem setCond_modem (s : State) (k : CauseKind) (b : Bool) : (s.setCond k b).modem = s.modem := rfl
@[simp] theorem setCond_frame (s : State) (k : CauseKind) (b : Bool) : (s.setCond k b).frame = s.frame := rfl
@[simp] theorem setCond_tables (s : State) (k : CauseKind) (b : Bool) : (s.setCond k b).tables = s.tables := rfl
@[simp] theorem setCond_log (s : State) (k : CauseKind) (b : Bool) : (s.setCond k b).log = s.log := rfl
@[simp] theorem setCond_power (s : State) (k : CauseKind) (b : Bool) : (s.setCond k b).power = s.power := rfl
@[simp] theorem setCond_pending (s : State) (k : CauseKind) (b : Bool) : (s.setCond k b).pending = s.pending := rfl
@[simp] theorem setCond_idleSpan (s : State) (k : CauseKind) (b : Bool) : (s.setCond k b).idleSpan = s.idleSpan := rfl
@[simp] theorem setCond_freeCtr (s : State) (k : CauseKind) (b : Bool) : (s.setCond k b).freeCtr = s.freeCtr := rfl

/-! ### noteOccurrence -/

@[simp] theorem noteOccurrence_acq (s : State) (k : CauseKind) (d e : Nat) : (s.noteOccurrence k d e).acq = s.acq := rfl
@[simp] theorem noteOccurrence_drive (s : State) (k : CauseKind) (d e : Nat) : (s.noteOccurrence k d e).drive = s.drive := rfl
@[simp] theorem noteOccurrence_plan (s : State) (k : CauseKind) (d e : Nat) : (s.noteOccurrence k d e).plan = s.plan := rfl
@[simp] theorem noteOccurrence_dirt (s : State) (k : CauseKind) (d e : Nat) : (s.noteOccurrence k d e).dirt = s.dirt := rfl
@[simp] theorem noteOccurrence_pack (s : State) (k : CauseKind) (d e : Nat) : (s.noteOccurrence k d e).pack = s.pack := rfl
@[simp] theorem noteOccurrence_charge (s : State) (k : CauseKind) (d e : Nat) : (s.noteOccurrence k d e).charge = s.charge := rfl
@[simp] theorem noteOccurrence_modem (s : State) (k : CauseKind) (d e : Nat) : (s.noteOccurrence k d e).modem = s.modem := rfl
@[simp] theorem noteOccurrence_frame (s : State) (k : CauseKind) (d e : Nat) : (s.noteOccurrence k d e).frame = s.frame := rfl
@[simp] theorem noteOccurrence_tables (s : State) (k : CauseKind) (d e : Nat) : (s.noteOccurrence k d e).tables = s.tables := rfl
@[simp] theorem noteOccurrence_log (s : State) (k : CauseKind) (d e : Nat) : (s.noteOccurrence k d e).log = s.log := rfl
@[simp] theorem noteOccurrence_power (s : State) (k : CauseKind) (d e : Nat) : (s.noteOccurrence k d e).power = s.power := rfl
@[simp] theorem noteOccurrence_pending (s : State) (k : CauseKind) (d e : Nat) : (s.noteOccurrence k d e).pending = s.pending := rfl
@[simp] theorem noteOccurrence_idleSpan (s : State) (k : CauseKind) (d e : Nat) : (s.noteOccurrence k d e).idleSpan = s.idleSpan := rfl
@[simp] theorem noteOccurrence_freeCtr (s : State) (k : CauseKind) (d e : Nat) : (s.noteOccurrence k d e).freeCtr = s.freeCtr := rfl

/-! ### seeCause -/

@[simp] theorem seeCause_acq (s : State) (k : CauseKind) : (s.seeCause k).acq = s.acq := rfl
@[simp] theorem seeCause_drive (s : State) (k : CauseKind) : (s.seeCause k).drive = s.drive := rfl
@[simp] theorem seeCause_plan (s : State) (k : CauseKind) : (s.seeCause k).plan = s.plan := rfl
@[simp] theorem seeCause_dirt (s : State) (k : CauseKind) : (s.seeCause k).dirt = s.dirt := rfl
@[simp] theorem seeCause_pack (s : State) (k : CauseKind) : (s.seeCause k).pack = s.pack := rfl
@[simp] theorem seeCause_charge (s : State) (k : CauseKind) : (s.seeCause k).charge = s.charge := rfl
@[simp] theorem seeCause_modem (s : State) (k : CauseKind) : (s.seeCause k).modem = s.modem := rfl
@[simp] theorem seeCause_frame (s : State) (k : CauseKind) : (s.seeCause k).frame = s.frame := rfl
@[simp] theorem seeCause_tables (s : State) (k : CauseKind) : (s.seeCause k).tables = s.tables := rfl
@[simp] theorem seeCause_cause (s : State) (k : CauseKind) : (s.seeCause k).cause = s.cause := rfl
@[simp] theorem seeCause_power (s : State) (k : CauseKind) : (s.seeCause k).power = s.power := rfl
@[simp] theorem seeCause_pending (s : State) (k : CauseKind) : (s.seeCause k).pending = s.pending := rfl
@[simp] theorem seeCause_idleSpan (s : State) (k : CauseKind) : (s.seeCause k).idleSpan = s.idleSpan := rfl
@[simp] theorem seeCause_freeCtr (s : State) (k : CauseKind) : (s.seeCause k).freeCtr = s.freeCtr := rfl

/-! ### putTable -/

@[simp] theorem putTable_acq (s : State) (t : TableId) (x : TableSlot) : (s.putTable t x).acq = s.acq := rfl
@[simp] theorem putTable_drive (s : State) (t : TableId) (x : TableSlot) : (s.putTable t x).drive = s.drive := rfl
@[simp] theorem putTable_plan (s : State) (t : TableId) (x : TableSlot) : (s.putTable t x).plan = s.plan := rfl
@[simp] theorem putTable_dirt (s : State) (t : TableId) (x : TableSlot) : (s.putTable t x).dirt = s.dirt := rfl
@[simp] theorem putTable_pack (s : State) (t : TableId) (x : TableSlot) : (s.putTable t x).pack = s.pack := rfl
@[simp] theorem putTable_charge (s : State) (t : TableId) (x : TableSlot) : (s.putTable t x).charge = s.charge := rfl
@[simp] theorem putTable_modem (s : State) (t : TableId) (x : TableSlot) : (s.putTable t x).modem = s.modem := rfl
@[simp] theorem putTable_frame (s : State) (t : TableId) (x : TableSlot) : (s.putTable t x).frame = s.frame := rfl
@[simp] theorem putTable_cause (s : State) (t : TableId) (x : TableSlot) : (s.putTable t x).cause = s.cause := rfl
@[simp] theorem putTable_log (s : State) (t : TableId) (x : TableSlot) : (s.putTable t x).log = s.log := rfl
@[simp] theorem putTable_power (s : State) (t : TableId) (x : TableSlot) : (s.putTable t x).power = s.power := rfl
@[simp] theorem putTable_pending (s : State) (t : TableId) (x : TableSlot) : (s.putTable t x).pending = s.pending := rfl
@[simp] theorem putTable_idleSpan (s : State) (t : TableId) (x : TableSlot) : (s.putTable t x).idleSpan = s.idleSpan := rfl
@[simp] theorem putTable_freeCtr (s : State) (t : TableId) (x : TableSlot) : (s.putTable t x).freeCtr = s.freeCtr := rfl

/-! ### freeUsed -/

@[simp] theorem freeUsed_acq (s : State) : (s.freeUsed).acq = s.acq := rfl
@[simp] theorem freeUsed_drive (s : State) : (s.freeUsed).drive = s.drive := rfl
@[simp] theorem freeUsed_plan (s : State) : (s.freeUsed).plan = s.plan := rfl
@[simp] theorem freeUsed_dirt (s : State) : (s.freeUsed).dirt = s.dirt := rfl
@[simp] theorem freeUsed_pack (s : State) : (s.freeUsed).pack = s.pack := rfl
@[simp] theorem freeUsed_charge (s : State) : (s.freeUsed).charge = s.charge := rfl
@[simp] theorem freeUsed_modem (s : State) : (s.freeUsed).modem = s.modem := rfl
@[simp] theorem freeUsed_frame (s : State) : (s.freeUsed).frame = s.frame := rfl
@[simp] theorem freeUsed_tables (s : State) : (s.freeUsed).tables = s.tables := rfl
@[simp] theorem freeUsed_cause (s : State) : (s.freeUsed).cause = s.cause := rfl
@[simp] theorem freeUsed_log (s : State) : (s.freeUsed).log = s.log := rfl
@[simp] theorem freeUsed_power (s : State) : (s.freeUsed).power = s.power := rfl
@[simp] theorem freeUsed_pending (s : State) : (s.freeUsed).pending = s.pending := rfl
@[simp] theorem freeUsed_idleSpan (s : State) : (s.freeUsed).idleSpan = s.idleSpan := rfl

/-! ### leaveStopped -/

@[simp] theorem leaveStopped_acq (s : State) : (s.leaveStopped).acq = s.acq := rfl
@[simp] theorem leaveStopped_drive (s : State) : (s.leaveStopped).drive = s.drive := rfl
@[simp] theorem leaveStopped_plan (s : State) : (s.leaveStopped).plan = s.plan := rfl
@[simp] theorem leaveStopped_dirt (s : State) : (s.leaveStopped).dirt = s.dirt := rfl
@[simp] theorem leaveStopped_pack (s : State) : (s.leaveStopped).pack = s.pack := rfl
@[simp] theorem leaveStopped_charge (s : State) : (s.leaveStopped).charge = s.charge := rfl
@[simp] theorem leaveStopped_modem (s : State) : (s.leaveStopped).modem = s.modem := rfl
@[simp] theorem leaveStopped_frame (s : State) : (s.leaveStopped).frame = s.frame := rfl
@[simp] theorem leaveStopped_tables (s : State) : (s.leaveStopped).tables = s.tables := rfl
@[simp] theorem leaveStopped_cause (s : State) : (s.leaveStopped).cause = s.cause := rfl
@[simp] theorem leaveStopped_power (s : State) : (s.leaveStopped).power = s.power := rfl
@[simp] theorem leaveStopped_pending (s : State) : (s.leaveStopped).pending = s.pending := rfl
@[simp] theorem leaveStopped_idleSpan (s : State) : (s.leaveStopped).idleSpan = s.idleSpan := rfl
@[simp] theorem leaveStopped_freeCtr (s : State) : (s.leaveStopped).freeCtr = s.freeCtr := rfl

/-! ### loadBand -/

@[simp] theorem loadBand_acq (s : State) : (s.loadBand).acq = s.acq := rfl
@[simp] theorem loadBand_drive (s : State) : (s.loadBand).drive = s.drive := rfl
@[simp] theorem loadBand_plan (s : State) : (s.loadBand).plan = s.plan := rfl
@[simp] theorem loadBand_pack (s : State) : (s.loadBand).pack = s.pack := rfl
@[simp] theorem loadBand_charge (s : State) : (s.loadBand).charge = s.charge := rfl
@[simp] theorem loadBand_modem (s : State) : (s.loadBand).modem = s.modem := rfl
@[simp] theorem loadBand_frame (s : State) : (s.loadBand).frame = s.frame := rfl
@[simp] theorem loadBand_tables (s : State) : (s.loadBand).tables = s.tables := rfl
@[simp] theorem loadBand_cause (s : State) : (s.loadBand).cause = s.cause := rfl
@[simp] theorem loadBand_log (s : State) : (s.loadBand).log = s.log := rfl
@[simp] theorem loadBand_power (s : State) : (s.loadBand).power = s.power := rfl
@[simp] theorem loadBand_pending (s : State) : (s.loadBand).pending = s.pending := rfl
@[simp] theorem loadBand_idleSpan (s : State) : (s.loadBand).idleSpan = s.idleSpan := rfl
@[simp] theorem loadBand_freeCtr (s : State) : (s.loadBand).freeCtr = s.freeCtr := rfl

/-! ### driveChangeover -/

@[simp] theorem driveChangeover_acq (s : State) : (s.driveChangeover).acq = s.acq := rfl
@[simp] theorem driveChangeover_plan (s : State) : (s.driveChangeover).plan = s.plan := rfl
@[simp] theorem driveChangeover_dirt (s : State) : (s.driveChangeover).dirt = s.dirt := rfl
@[simp] theorem driveChangeover_pack (s : State) : (s.driveChangeover).pack = s.pack := rfl
@[simp] theorem driveChangeover_charge (s : State) : (s.driveChangeover).charge = s.charge := rfl
@[simp] theorem driveChangeover_modem (s : State) : (s.driveChangeover).modem = s.modem := rfl
@[simp] theorem driveChangeover_frame (s : State) : (s.driveChangeover).frame = s.frame := rfl
@[simp] theorem driveChangeover_tables (s : State) : (s.driveChangeover).tables = s.tables := rfl
@[simp] theorem driveChangeover_cause (s : State) : (s.driveChangeover).cause = s.cause := rfl
@[simp] theorem driveChangeover_log (s : State) : (s.driveChangeover).log = s.log := rfl
@[simp] theorem driveChangeover_power (s : State) : (s.driveChangeover).power = s.power := rfl
@[simp] theorem driveChangeover_pending (s : State) : (s.driveChangeover).pending = s.pending := rfl
@[simp] theorem driveChangeover_idleSpan (s : State) : (s.driveChangeover).idleSpan = s.idleSpan := rfl
@[simp] theorem driveChangeover_freeCtr (s : State) : (s.driveChangeover).freeCtr = s.freeCtr := rfl

/-! ### formSoc -/

@[simp] theorem formSoc_acq (s : State) : (s.formSoc).acq = s.acq := rfl
@[simp] theorem formSoc_drive (s : State) : (s.formSoc).drive = s.drive := rfl
@[simp] theorem formSoc_plan (s : State) : (s.formSoc).plan = s.plan := rfl
@[simp] theorem formSoc_dirt (s : State) : (s.formSoc).dirt = s.dirt := rfl
@[simp] theorem formSoc_charge (s : State) : (s.formSoc).charge = s.charge := rfl
@[simp] theorem formSoc_modem (s : State) : (s.formSoc).modem = s.modem := rfl
@[simp] theorem formSoc_frame (s : State) : (s.formSoc).frame = s.frame := rfl
@[simp] theorem formSoc_tables (s : State) : (s.formSoc).tables = s.tables := rfl
@[simp] theorem formSoc_cause (s : State) : (s.formSoc).cause = s.cause := rfl
@[simp] theorem formSoc_log (s : State) : (s.formSoc).log = s.log := rfl
@[simp] theorem formSoc_power (s : State) : (s.formSoc).power = s.power := rfl
@[simp] theorem formSoc_pending (s : State) : (s.formSoc).pending = s.pending := rfl
@[simp] theorem formSoc_idleSpan (s : State) : (s.formSoc).idleSpan = s.idleSpan := rfl
@[simp] theorem formSoc_freeCtr (s : State) : (s.formSoc).freeCtr = s.freeCtr := rfl

/-! ### clampPack -/

@[simp] theorem clampPack_acq (s : State) : (s.clampPack).acq = s.acq := rfl
@[simp] theorem clampPack_drive (s : State) : (s.clampPack).drive = s.drive := rfl
@[simp] theorem clampPack_plan (s : State) : (s.clampPack).plan = s.plan := rfl
@[simp] theorem clampPack_dirt (s : State) : (s.clampPack).dirt = s.dirt := rfl
@[simp] theorem clampPack_charge (s : State) : (s.clampPack).charge = s.charge := rfl
@[simp] theorem clampPack_modem (s : State) : (s.clampPack).modem = s.modem := rfl
@[simp] theorem clampPack_frame (s : State) : (s.clampPack).frame = s.frame := rfl
@[simp] theorem clampPack_tables (s : State) : (s.clampPack).tables = s.tables := rfl
@[simp] theorem clampPack_cause (s : State) : (s.clampPack).cause = s.cause := rfl
@[simp] theorem clampPack_log (s : State) : (s.clampPack).log = s.log := rfl
@[simp] theorem clampPack_power (s : State) : (s.clampPack).power = s.power := rfl
@[simp] theorem clampPack_pending (s : State) : (s.clampPack).pending = s.pending := rfl
@[simp] theorem clampPack_idleSpan (s : State) : (s.clampPack).idleSpan = s.idleSpan := rfl
@[simp] theorem clampPack_freeCtr (s : State) : (s.clampPack).freeCtr = s.freeCtr := rfl

/-! ### openPath -/

@[simp] theorem openPath_acq (s : State) : (s.openPath).acq = s.acq := rfl
@[simp] theorem openPath_drive (s : State) : (s.openPath).drive = s.drive := rfl
@[simp] theorem openPath_plan (s : State) : (s.openPath).plan = s.plan := rfl
@[simp] theorem openPath_dirt (s : State) : (s.openPath).dirt = s.dirt := rfl
@[simp] theorem openPath_pack (s : State) : (s.openPath).pack = s.pack := rfl
@[simp] theorem openPath_modem (s : State) : (s.openPath).modem = s.modem := rfl
@[simp] theorem openPath_frame (s : State) : (s.openPath).frame = s.frame := rfl
@[simp] theorem openPath_tables (s : State) : (s.openPath).tables = s.tables := rfl
@[simp] theorem openPath_cause (s : State) : (s.openPath).cause = s.cause := rfl
@[simp] theorem openPath_log (s : State) : (s.openPath).log = s.log := rfl
@[simp] theorem openPath_power (s : State) : (s.openPath).power = s.power := rfl
@[simp] theorem openPath_pending (s : State) : (s.openPath).pending = s.pending := rfl
@[simp] theorem openPath_idleSpan (s : State) : (s.openPath).idleSpan = s.idleSpan := rfl
@[simp] theorem openPath_freeCtr (s : State) : (s.openPath).freeCtr = s.freeCtr := rfl

/-! ### formCap -/

@[simp] theorem formCap_acq (s : State) : (s.formCap).acq = s.acq := rfl
@[simp] theorem formCap_drive (s : State) : (s.formCap).drive = s.drive := rfl
@[simp] theorem formCap_plan (s : State) : (s.formCap).plan = s.plan := rfl
@[simp] theorem formCap_dirt (s : State) : (s.formCap).dirt = s.dirt := rfl
@[simp] theorem formCap_pack (s : State) : (s.formCap).pack = s.pack := rfl
@[simp] theorem formCap_modem (s : State) : (s.formCap).modem = s.modem := rfl
@[simp] theorem formCap_frame (s : State) : (s.formCap).frame = s.frame := rfl
@[simp] theorem formCap_tables (s : State) : (s.formCap).tables = s.tables := rfl
@[simp] theorem formCap_cause (s : State) : (s.formCap).cause = s.cause := rfl
@[simp] theorem formCap_log (s : State) : (s.formCap).log = s.log := rfl
@[simp] theorem formCap_power (s : State) : (s.formCap).power = s.power := rfl
@[simp] theorem formCap_pending (s : State) : (s.formCap).pending = s.pending := rfl
@[simp] theorem formCap_idleSpan (s : State) : (s.formCap).idleSpan = s.idleSpan := rfl
@[simp] theorem formCap_freeCtr (s : State) : (s.formCap).freeCtr = s.freeCtr := rfl

/-! ### formRequest -/

@[simp] theorem formRequest_acq (s : State) : (s.formRequest).acq = s.acq := rfl
@[simp] theorem formRequest_drive (s : State) : (s.formRequest).drive = s.drive := rfl
@[simp] theorem formRequest_dirt (s : State) : (s.formRequest).dirt = s.dirt := rfl
@[simp] theorem formRequest_pack (s : State) : (s.formRequest).pack = s.pack := rfl
@[simp] theorem formRequest_charge (s : State) : (s.formRequest).charge = s.charge := rfl
@[simp] theorem formRequest_modem (s : State) : (s.formRequest).modem = s.modem := rfl
@[simp] theorem formRequest_frame (s : State) : (s.formRequest).frame = s.frame := rfl
@[simp] theorem formRequest_tables (s : State) : (s.formRequest).tables = s.tables := rfl
@[simp] theorem formRequest_cause (s : State) : (s.formRequest).cause = s.cause := rfl
@[simp] theorem formRequest_log (s : State) : (s.formRequest).log = s.log := rfl
@[simp] theorem formRequest_power (s : State) : (s.formRequest).power = s.power := rfl
@[simp] theorem formRequest_pending (s : State) : (s.formRequest).pending = s.pending := rfl
@[simp] theorem formRequest_idleSpan (s : State) : (s.formRequest).idleSpan = s.idleSpan := rfl
@[simp] theorem formRequest_freeCtr (s : State) : (s.formRequest).freeCtr = s.freeCtr := rfl

/-! ### cancelRetry -/

@[simp] theorem cancelRetry_acq (s : State) : (s.cancelRetry).acq = s.acq := rfl
@[simp] theorem cancelRetry_plan (s : State) : (s.cancelRetry).plan = s.plan := rfl
@[simp] theorem cancelRetry_dirt (s : State) : (s.cancelRetry).dirt = s.dirt := rfl
@[simp] theorem cancelRetry_pack (s : State) : (s.cancelRetry).pack = s.pack := rfl
@[simp] theorem cancelRetry_charge (s : State) : (s.cancelRetry).charge = s.charge := rfl
@[simp] theorem cancelRetry_modem (s : State) : (s.cancelRetry).modem = s.modem := rfl
@[simp] theorem cancelRetry_frame (s : State) : (s.cancelRetry).frame = s.frame := rfl
@[simp] theorem cancelRetry_tables (s : State) : (s.cancelRetry).tables = s.tables := rfl
@[simp] theorem cancelRetry_cause (s : State) : (s.cancelRetry).cause = s.cause := rfl
@[simp] theorem cancelRetry_log (s : State) : (s.cancelRetry).log = s.log := rfl
@[simp] theorem cancelRetry_power (s : State) : (s.cancelRetry).power = s.power := rfl
@[simp] theorem cancelRetry_pending (s : State) : (s.cancelRetry).pending = s.pending := rfl
@[simp] theorem cancelRetry_idleSpan (s : State) : (s.cancelRetry).idleSpan = s.idleSpan := rfl
@[simp] theorem cancelRetry_freeCtr (s : State) : (s.cancelRetry).freeCtr = s.freeCtr := rfl

/-! ### withFrame -/

@[simp] theorem withFrame_acq (s : State) (f : Frame) : (s.withFrame f).acq = s.acq := rfl
@[simp] theorem withFrame_drive (s : State) (f : Frame) : (s.withFrame f).drive = s.drive := rfl
@[simp] theorem withFrame_plan (s : State) (f : Frame) : (s.withFrame f).plan = s.plan := rfl
@[simp] theorem withFrame_dirt (s : State) (f : Frame) : (s.withFrame f).dirt = s.dirt := rfl
@[simp] theorem withFrame_pack (s : State) (f : Frame) : (s.withFrame f).pack = s.pack := rfl
@[simp] theorem withFrame_charge (s : State) (f : Frame) : (s.withFrame f).charge = s.charge := rfl
@[simp] theorem withFrame_modem (s : State) (f : Frame) : (s.withFrame f).modem = s.modem := rfl
@[simp] theorem withFrame_tables (s : State) (f : Frame) : (s.withFrame f).tables = s.tables := rfl
@[simp] theorem withFrame_cause (s : State) (f : Frame) : (s.withFrame f).cause = s.cause := rfl
@[simp] theorem withFrame_log (s : State) (f : Frame) : (s.withFrame f).log = s.log := rfl
@[simp] theorem withFrame_power (s : State) (f : Frame) : (s.withFrame f).power = s.power := rfl
@[simp] theorem withFrame_pending (s : State) (f : Frame) : (s.withFrame f).pending = s.pending := rfl
@[simp] theorem withFrame_idleSpan (s : State) (f : Frame) : (s.withFrame f).idleSpan = s.idleSpan := rfl
@[simp] theorem withFrame_freeCtr (s : State) (f : Frame) : (s.withFrame f).freeCtr = s.freeCtr := rfl

/-! ### withModem -/

@[simp] theorem withModem_acq (s : State) (m : Modem) : (s.withModem m).acq = s.acq := rfl
@[simp] theorem withModem_drive (s : State) (m : Modem) : (s.withModem m).drive = s.drive := rfl
@[simp] theorem withModem_plan (s : State) (m : Modem) : (s.withModem m).plan = s.plan := rfl
@[simp] theorem withModem_dirt (s : State) (m : Modem) : (s.withModem m).dirt = s.dirt := rfl
@[simp] theorem withModem_pack (s : State) (m : Modem) : (s.withModem m).pack = s.pack := rfl
@[simp] theorem withModem_charge (s : State) (m : Modem) : (s.withModem m).charge = s.charge := rfl
@[simp] theorem withModem_frame (s : State) (m : Modem) : (s.withModem m).frame = s.frame := rfl
@[simp] theorem withModem_tables (s : State) (m : Modem) : (s.withModem m).tables = s.tables := rfl
@[simp] theorem withModem_cause (s : State) (m : Modem) : (s.withModem m).cause = s.cause := rfl
@[simp] theorem withModem_log (s : State) (m : Modem) : (s.withModem m).log = s.log := rfl
@[simp] theorem withModem_power (s : State) (m : Modem) : (s.withModem m).power = s.power := rfl
@[simp] theorem withModem_pending (s : State) (m : Modem) : (s.withModem m).pending = s.pending := rfl
@[simp] theorem withModem_idleSpan (s : State) (m : Modem) : (s.withModem m).idleSpan = s.idleSpan := rfl
@[simp] theorem withModem_freeCtr (s : State) (m : Modem) : (s.withModem m).freeCtr = s.freeCtr := rfl

/-! ### formLimit -/

@[simp] theorem formLimit_acq (s : State) : (s.formLimit).acq = s.acq := rfl
@[simp] theorem formLimit_plan (s : State) : (s.formLimit).plan = s.plan := rfl
@[simp] theorem formLimit_dirt (s : State) : (s.formLimit).dirt = s.dirt := rfl
@[simp] theorem formLimit_pack (s : State) : (s.formLimit).pack = s.pack := rfl
@[simp] theorem formLimit_charge (s : State) : (s.formLimit).charge = s.charge := rfl
@[simp] theorem formLimit_modem (s : State) : (s.formLimit).modem = s.modem := rfl
@[simp] theorem formLimit_frame (s : State) : (s.formLimit).frame = s.frame := rfl
@[simp] theorem formLimit_tables (s : State) : (s.formLimit).tables = s.tables := rfl
@[simp] theorem formLimit_cause (s : State) : (s.formLimit).cause = s.cause := rfl
@[simp] theorem formLimit_log (s : State) : (s.formLimit).log = s.log := rfl
@[simp] theorem formLimit_power (s : State) : (s.formLimit).power = s.power := rfl
@[simp] theorem formLimit_pending (s : State) : (s.formLimit).pending = s.pending := rfl
@[simp] theorem formLimit_idleSpan (s : State) : (s.formLimit).idleSpan = s.idleSpan := rfl
@[simp] theorem formLimit_freeCtr (s : State) : (s.formLimit).freeCtr = s.freeCtr := rfl

/-! ### withDetector -/

@[simp] theorem withDetector_acq (s : State) (d : Detector) : (s.withDetector d).acq = s.acq := rfl
@[simp] theorem withDetector_drive (s : State) (d : Detector) : (s.withDetector d).drive = s.drive := rfl
@[simp] theorem withDetector_plan (s : State) (d : Detector) : (s.withDetector d).plan = s.plan := rfl
@[simp] theorem withDetector_pack (s : State) (d : Detector) : (s.withDetector d).pack = s.pack := rfl
@[simp] theorem withDetector_charge (s : State) (d : Detector) : (s.withDetector d).charge = s.charge := rfl
@[simp] theorem withDetector_modem (s : State) (d : Detector) : (s.withDetector d).modem = s.modem := rfl
@[simp] theorem withDetector_frame (s : State) (d : Detector) : (s.withDetector d).frame = s.frame := rfl
@[simp] theorem withDetector_tables (s : State) (d : Detector) : (s.withDetector d).tables = s.tables := rfl
@[simp] theorem withDetector_cause (s : State) (d : Detector) : (s.withDetector d).cause = s.cause := rfl
@[simp] theorem withDetector_log (s : State) (d : Detector) : (s.withDetector d).log = s.log := rfl
@[simp] theorem withDetector_power (s : State) (d : Detector) : (s.withDetector d).power = s.power := rfl
@[simp] theorem withDetector_pending (s : State) (d : Detector) : (s.withDetector d).pending = s.pending := rfl
@[simp] theorem withDetector_idleSpan (s : State) (d : Detector) : (s.withDetector d).idleSpan = s.idleSpan := rfl
@[simp] theorem withDetector_freeCtr (s : State) (d : Detector) : (s.withDetector d).freeCtr = s.freeCtr := rfl

/-! ### countSample -/

@[simp] theorem countSample_acq (s : State) (b : Bool) : (s.countSample b).acq = s.acq := rfl
@[simp] theorem countSample_drive (s : State) (b : Bool) : (s.countSample b).drive = s.drive := rfl
@[simp] theorem countSample_plan (s : State) (b : Bool) : (s.countSample b).plan = s.plan := rfl
@[simp] theorem countSample_pack (s : State) (b : Bool) : (s.countSample b).pack = s.pack := rfl
@[simp] theorem countSample_charge (s : State) (b : Bool) : (s.countSample b).charge = s.charge := rfl
@[simp] theorem countSample_modem (s : State) (b : Bool) : (s.countSample b).modem = s.modem := rfl
@[simp] theorem countSample_frame (s : State) (b : Bool) : (s.countSample b).frame = s.frame := rfl
@[simp] theorem countSample_tables (s : State) (b : Bool) : (s.countSample b).tables = s.tables := rfl
@[simp] theorem countSample_cause (s : State) (b : Bool) : (s.countSample b).cause = s.cause := rfl
@[simp] theorem countSample_log (s : State) (b : Bool) : (s.countSample b).log = s.log := rfl
@[simp] theorem countSample_power (s : State) (b : Bool) : (s.countSample b).power = s.power := rfl
@[simp] theorem countSample_pending (s : State) (b : Bool) : (s.countSample b).pending = s.pending := rfl
@[simp] theorem countSample_idleSpan (s : State) (b : Bool) : (s.countSample b).idleSpan = s.idleSpan := rfl
@[simp] theorem countSample_freeCtr (s : State) (b : Bool) : (s.countSample b).freeCtr = s.freeCtr := rfl

/-! ### restartIdle -/

@[simp] theorem restartIdle_acq (s : State) : (s.restartIdle).acq = s.acq := rfl
@[simp] theorem restartIdle_drive (s : State) : (s.restartIdle).drive = s.drive := rfl
@[simp] theorem restartIdle_plan (s : State) : (s.restartIdle).plan = s.plan := rfl
@[simp] theorem restartIdle_dirt (s : State) : (s.restartIdle).dirt = s.dirt := rfl
@[simp] theorem restartIdle_pack (s : State) : (s.restartIdle).pack = s.pack := rfl
@[simp] theorem restartIdle_charge (s : State) : (s.restartIdle).charge = s.charge := rfl
@[simp] theorem restartIdle_modem (s : State) : (s.restartIdle).modem = s.modem := rfl
@[simp] theorem restartIdle_frame (s : State) : (s.restartIdle).frame = s.frame := rfl
@[simp] theorem restartIdle_tables (s : State) : (s.restartIdle).tables = s.tables := rfl
@[simp] theorem restartIdle_cause (s : State) : (s.restartIdle).cause = s.cause := rfl
@[simp] theorem restartIdle_log (s : State) : (s.restartIdle).log = s.log := rfl
@[simp] theorem restartIdle_pending (s : State) : (s.restartIdle).pending = s.pending := rfl
@[simp] theorem restartIdle_idleSpan (s : State) : (s.restartIdle).idleSpan = s.idleSpan := rfl
@[simp] theorem restartIdle_freeCtr (s : State) : (s.restartIdle).freeCtr = s.freeCtr := rfl

/-! ### keepReport -/

@[simp] theorem keepReport_acq (s : State) : (s.keepReport).acq = s.acq := rfl
@[simp] theorem keepReport_drive (s : State) : (s.keepReport).drive = s.drive := rfl
@[simp] theorem keepReport_plan (s : State) : (s.keepReport).plan = s.plan := rfl
@[simp] theorem keepReport_dirt (s : State) : (s.keepReport).dirt = s.dirt := rfl
@[simp] theorem keepReport_charge (s : State) : (s.keepReport).charge = s.charge := rfl
@[simp] theorem keepReport_modem (s : State) : (s.keepReport).modem = s.modem := rfl
@[simp] theorem keepReport_frame (s : State) : (s.keepReport).frame = s.frame := rfl
@[simp] theorem keepReport_tables (s : State) : (s.keepReport).tables = s.tables := rfl
@[simp] theorem keepReport_cause (s : State) : (s.keepReport).cause = s.cause := rfl
@[simp] theorem keepReport_log (s : State) : (s.keepReport).log = s.log := rfl
@[simp] theorem keepReport_power (s : State) : (s.keepReport).power = s.power := rfl
@[simp] theorem keepReport_pending (s : State) : (s.keepReport).pending = s.pending := rfl
@[simp] theorem keepReport_idleSpan (s : State) : (s.keepReport).idleSpan = s.idleSpan := rfl
@[simp] theorem keepReport_freeCtr (s : State) : (s.keepReport).freeCtr = s.freeCtr := rfl

/-! ### countAttempt -/

@[simp] theorem countAttempt_acq (s : State) : (s.countAttempt).acq = s.acq := rfl
@[simp] theorem countAttempt_plan (s : State) : (s.countAttempt).plan = s.plan := rfl
@[simp] theorem countAttempt_dirt (s : State) : (s.countAttempt).dirt = s.dirt := rfl
@[simp] theorem countAttempt_pack (s : State) : (s.countAttempt).pack = s.pack := rfl
@[simp] theorem countAttempt_charge (s : State) : (s.countAttempt).charge = s.charge := rfl
@[simp] theorem countAttempt_modem (s : State) : (s.countAttempt).modem = s.modem := rfl
@[simp] theorem countAttempt_frame (s : State) : (s.countAttempt).frame = s.frame := rfl
@[simp] theorem countAttempt_tables (s : State) : (s.countAttempt).tables = s.tables := rfl
@[simp] theorem countAttempt_cause (s : State) : (s.countAttempt).cause = s.cause := rfl
@[simp] theorem countAttempt_log (s : State) : (s.countAttempt).log = s.log := rfl
@[simp] theorem countAttempt_power (s : State) : (s.countAttempt).power = s.power := rfl
@[simp] theorem countAttempt_pending (s : State) : (s.countAttempt).pending = s.pending := rfl
@[simp] theorem countAttempt_idleSpan (s : State) : (s.countAttempt).idleSpan = s.idleSpan := rfl
@[simp] theorem countAttempt_freeCtr (s : State) : (s.countAttempt).freeCtr = s.freeCtr := rfl

/-! ### withCounts -/

@[simp] theorem withCounts_acq (s : State) (f : LinkCounts → LinkCounts) : (s.withCounts f).acq = s.acq := rfl
@[simp] theorem withCounts_drive (s : State) (f : LinkCounts → LinkCounts) : (s.withCounts f).drive = s.drive := rfl
@[simp] theorem withCounts_plan (s : State) (f : LinkCounts → LinkCounts) : (s.withCounts f).plan = s.plan := rfl
@[simp] theorem withCounts_dirt (s : State) (f : LinkCounts → LinkCounts) : (s.withCounts f).dirt = s.dirt := rfl
@[simp] theorem withCounts_pack (s : State) (f : LinkCounts → LinkCounts) : (s.withCounts f).pack = s.pack := rfl
@[simp] theorem withCounts_charge (s : State) (f : LinkCounts → LinkCounts) : (s.withCounts f).charge = s.charge := rfl
@[simp] theorem withCounts_modem (s : State) (f : LinkCounts → LinkCounts) : (s.withCounts f).modem = s.modem := rfl
@[simp] theorem withCounts_tables (s : State) (f : LinkCounts → LinkCounts) : (s.withCounts f).tables = s.tables := rfl
@[simp] theorem withCounts_cause (s : State) (f : LinkCounts → LinkCounts) : (s.withCounts f).cause = s.cause := rfl
@[simp] theorem withCounts_log (s : State) (f : LinkCounts → LinkCounts) : (s.withCounts f).log = s.log := rfl
@[simp] theorem withCounts_power (s : State) (f : LinkCounts → LinkCounts) : (s.withCounts f).power = s.power := rfl
@[simp] theorem withCounts_pending (s : State) (f : LinkCounts → LinkCounts) : (s.withCounts f).pending = s.pending := rfl
@[simp] theorem withCounts_idleSpan (s : State) (f : LinkCounts → LinkCounts) : (s.withCounts f).idleSpan = s.idleSpan := rfl
@[simp] theorem withCounts_freeCtr (s : State) (f : LinkCounts → LinkCounts) : (s.withCounts f).freeCtr = s.freeCtr := rfl

/-! ### What the updates write -/

@[simp] theorem withFrame_frame (s : State) (f : Frame) : (s.withFrame f).frame = f := rfl
@[simp] theorem withModem_modem (s : State) (m : Modem) : (s.withModem m).modem = m := rfl
@[simp] theorem freeUsed_freeCtr (s : State) : s.freeUsed.freeCtr = s.freeCtr + 1 := rfl
@[simp] theorem loadBand_bandBlank (s : State) : s.loadBand.dirt.bandBlank = some (ticksOfMs 50) := rfl
@[simp] theorem openPath_path (s : State) : s.openPath.charge.path = .opened := rfl
@[simp] theorem openPath_dwell (s : State) : s.openPath.charge.dwell = some (ticksOfMs 5) := rfl
@[simp] theorem formCap_cap (s : State) : s.formCap.charge.cap = s.capOf := rfl
@[simp] theorem formCap_demand (s : State) : s.formCap.charge.demand = min s.charge.demand s.capOf := rfl
@[simp] theorem formRequest_runReq (s : State) : s.formRequest.plan.runReq = s.runRequestNow := rfl
@[simp] theorem withDetector_det (s : State) (d : Detector) : (s.withDetector d).dirt.det = d := rfl
@[simp] theorem keepReport_report (s : State) : s.keepReport.pack.report = s.pack.asReport := rfl
@[simp] theorem countAttempt_attempts (s : State) : s.countAttempt.drive.attempts = s.drive.attempts + 1 := rfl

end Sys2Proof.Machine.State
end

