-- ==== Sys2Proof/Laws/Cascade.lean ====
section
/-! SUPPORT. What the shared cascade (Cascade.lean) never touches: for `Calm` (Safety.lean), each operation has one
lemma `<op>_calm` that says so. -/

namespace Sys2Proof.Machine

namespace State

/-! ### Recording -/

@[simp] theorem setCond_calm (s : State) (k : CauseKind) (b : Bool) : (s.setCond k b).calm = s.calm := rfl
@[simp] theorem occur_calm (s : State) (k : CauseKind) (d e : Nat) : (s.occur k d e).calm = s.calm := rfl
@[simp] theorem noteOccurrence_calm (s : State) (k : CauseKind) (d e : Nat) :
    (s.noteOccurrence k d e).calm = s.calm := rfl
@[simp] theorem raiseInfo_calm (s : State) (k : CauseKind) (d e : Nat) : (s.raiseInfo k d e).calm = s.calm := rfl

@[simp] theorem endCond_calm (s : State) (k : CauseKind) : (s.endCond k).calm = s.calm := by
  unfold endCond; split <;> rfl

@[simp] theorem writeRecord_calm (s : State) (r : LogRecord) : (s.writeRecord r).calm = s.calm := rfl

@[simp] theorem closeClean_calm (s : State) (w : EndReason) : (s.closeClean w).calm = s.calm := by
  unfold closeClean; split
  · split <;> simp
  · rfl

@[simp] theorem logMotorStart_calm (s : State) : s.logMotorStart.calm = s.calm := by
  unfold logMotorStart; split
  · rfl
  · split <;> rfl

@[simp] theorem leaveStopped_calm (s : State) : s.leaveStopped.calm = s.calm := rfl

/-! ### Tables, bands, state of charge -/

@[simp] theorem takeUpDrive_calm (s : State) : s.takeUpDrive.calm = s.calm := by
  unfold takeUpDrive takeUp; split
  · split <;> rfl
  · rfl

@[simp] theorem takeUpCharge_calm (s : State) : (s.takeUp .charge).calm = s.calm := by
  unfold takeUp; split <;> rfl

@[simp] theorem setBand_calm (s : State) (b : Nat) : (s.setBand b).calm = s.calm := by
  unfold setBand; split <;> rfl

@[simp] theorem planRunExit_calm (s : State) : s.planRunExit.calm = s.calm := by
  have h : s.planRunExit.calm = (s.setBand 0).calm := by unfold planRunExit; rw [endCond_calm]; rfl
  rw [h, setBand_calm]

@[simp] theorem formSoc_calm (s : State) : s.formSoc.calm = s.calm := rfl
@[simp] theorem emptyAnchor_calm (s : State) : s.emptyAnchor.calm = s.calm := rfl

@[simp] theorem fullAnchor_calm (s : State) : s.fullAnchor.calm = s.calm := by
  have h : s.fullAnchor.calm = s.learnCapacity.calm := rfl
  rw [h]; unfold learnCapacity; split <;> rfl

/-! ### Motor, path, probe -/

@[simp] theorem enterCoast_calm (s : State) : s.enterCoast.calm = s.calm := by
  unfold enterCoast; rw [takeUpDrive_calm]; split
  · rw [planRunExit_calm]; rfl
  · rfl

@[simp] theorem startIfDue_calm (s : State) : s.startIfDue.calm = s.calm := by
  unfold startIfDue startSequence; split
  · simp; rfl
  · rfl

@[simp] theorem openPath_calm (s : State) : s.openPath.calm = s.calm := rfl

@[simp] theorem openFromDischarge_calm (s : State) : s.openFromDischarge.calm = s.calm := by
  unfold openFromDischarge; split <;> rfl

@[simp] theorem closeChargeLog_calm (s : State) (w : EndReason) : (s.closeChargeLog w).calm = s.calm := by
  unfold closeChargeLog; split
  · split <;> simp
  · rfl

@[simp] theorem openFromCharge_calm (s : State) (w : EndReason) : (s.openFromCharge w).calm = s.calm := by
  unfold openFromCharge; split
  · simp only [takeUpCharge_calm]
    exact (closeChargeLog_calm _ w).trans rfl
  · rfl

@[simp] theorem restStopped_calm (s : State) : s.restStopped.calm = s.calm := by
  unfold restStopped; dsimp only; split <;> simp <;> rfl

@[simp] theorem enterStopped_calm (s : State) : s.enterStopped.calm = s.calm := by simp [enterStopped]

@[simp] theorem endProbe_calm (s : State) (w : ProbeResult) (f : List Bool) : (s.endProbe w f).calm = s.calm := by
  unfold endProbe; rw [startIfDue_calm, raiseInfo_calm]; exact Eq.trans rfl s.restStopped_calm

@[simp] theorem abortProbe_calm (s : State) (w : ProbeResult) : (s.abortProbe w).calm = s.calm := by
  unfold abortProbe; split <;> simp

@[simp] theorem endLockout_calm (s : State) : s.endLockout.calm = s.calm := by
  unfold endLockout; split <;> simp

@[simp] theorem cancelRetry_calm (s : State) : s.cancelRetry.calm = s.calm := rfl

/-! ### Trip latch and onsets -/

@[simp] theorem tripDrive_calm (s : State) : s.tripDrive.calm = s.calm := by
  unfold tripDrive; rw [cancelRetry_calm]; split <;> simp

@[simp] theorem setTrip_calm (s : State) : s.setTrip.calm = s.calm := by
  unfold setTrip; split
  · rfl
  · simp; rfl

@[simp] theorem overcurrentOff_calm (s : State) : s.overcurrentOff.calm = s.calm := by
  unfold overcurrentOff; rw [cancelRetry_calm]; split <;> simp

/-- An onset leaves the calm part alone. -/
@[simp] theorem raise_calm (s : State) (k : CauseKind) (d : Nat) : (s.raise k d).calm = s.calm := by
  unfold raise; split
  · rfl
  · dsimp only; split <;> split <;> simp

@[simp] theorem enterLockout_calm (s : State) : s.enterLockout.calm = s.calm := by
  unfold enterLockout; rw [raise_calm]; rfl

@[simp] theorem failAttempt_calm (s : State) : s.failAttempt.calm = s.calm := by
  have h : ∀ t : State, t.calm = s.enterCoast.calm → t.calm = s.calm := fun t e => e.trans s.enterCoast_calm
  unfold failAttempt; apply h; dsimp only; split
  · rw [enterLockout_calm]; rfl
  · split <;> rfl

/-! ### What an event's changes call for -/

@[simp] theorem enterPhase_calm (s : State) (p : Nat) : (s.enterPhase p).calm = s.calm := by
  unfold enterPhase; dsimp only; split
  · rw [fullAnchor_calm]; rfl
  · rfl

@[simp] theorem openCharge_calm (s : State) : s.openCharge.calm = s.calm := by
  unfold openCharge; rw [enterPhase_calm]; rfl

@[simp] theorem choosePath_calm (s : State) : s.choosePath.calm = s.calm := by
  unfold choosePath; split
  · split
    · rfl
    · split <;> simp
    · rfl
  · rfl

@[simp] theorem freshDemand_calm (s : State) : s.freshDemand.calm = s.calm := by
  unfold freshDemand; dsimp only; split
  · rw [abortProbe_calm]; rfl
  · rw [startIfDue_calm]; rfl

@[simp] theorem withdraw_calm (s : State) : s.withdraw.calm = s.calm := by
  unfold withdraw; dsimp only; split
  · rw [enterCoast_calm]; rfl
  · rfl

@[simp] theorem formKeep_calm (s : State) : s.formKeep.calm = s.calm := by
  unfold formKeep; split
  · split <;> rfl
  · split
    · rfl
    · rw [endCond_calm]; rfl

@[simp] theorem formHold_calm (s : State) : s.formHold.calm = s.calm := by
  unfold formHold; split
  · rfl
  · dsimp only; split
    · rw [abortProbe_calm]; rfl
    · rfl

@[simp] theorem formRequest_calm (s : State) : s.formRequest.calm = s.calm := rfl

@[simp] theorem formDemand_calm (s : State) : s.formDemand.calm = s.calm := by
  unfold formDemand; dsimp only; split
  · rfl
  · split <;> simp

@[simp] theorem formCap_calm (s : State) : s.formCap.calm = s.calm := rfl

@[simp] theorem formIdle_calm (s : State) : s.formIdle.calm = s.calm := by
  unfold formIdle; split
  · split <;> rfl
  · rfl

@[simp] theorem formAll_calm (s : State) : s.formAll.calm = s.calm := by simp [formAll]

/-- What an event's changes call for leaves the calm part alone. -/
@[simp] theorem settled_calm (s : State) : s.settled.calm = s.calm := by simp [settled]

end State

/-! ### Reading a field from equal calm parts -/

namespace Calm

variable {s t : State}

theorem acq_eq (h : t.calm = s.calm) : t.acq = s.acq := congrArg Calm.acq h
theorem modem_eq (h : t.calm = s.calm) : t.modem = s.modem := congrArg Calm.modem h
theorem trigger_eq (h : t.calm = s.calm) : t.plan.trigger = s.plan.trigger := congrArg (·.plan.trigger) h
theorem button_eq (h : t.calm = s.calm) : t.plan.button = s.plan.button := congrArg (·.plan.button) h
theorem mode_eq (h : t.calm = s.calm) : t.plan.mode = s.plan.mode := congrArg (·.plan.mode) h
theorem permit_eq (h : t.calm = s.calm) : t.plan.permit = s.plan.permit := congrArg (·.plan.permit) h
theorem exhausted_eq (h : t.calm = s.calm) : t.plan.exhausted = s.plan.exhausted := congrArg (·.plan.exhausted) h
theorem pressTimer_eq (h : t.calm = s.calm) : t.plan.pressTimer = s.plan.pressTimer := congrArg (·.plan.pressTimer) h
theorem wakePress_eq (h : t.calm = s.calm) : t.plan.wakePress = s.plan.wakePress := congrArg (·.plan.wakePress) h
theorem level_eq (h : t.calm = s.calm) : t.dirt.level = s.dirt.level := congrArg (·.dirt.level) h
theorem fallHold_eq (h : t.calm = s.calm) : t.dirt.fallHold = s.dirt.fallHold := congrArg (·.dirt.fallHold) h
theorem lastWin_eq (h : t.calm = s.calm) : t.dirt.lastWin = s.dirt.lastWin := congrArg (·.dirt.lastWin) h
theorem det_eq (h : t.calm = s.calm) : t.dirt.det = s.dirt.det := congrArg (·.dirt.det) h
theorem winSamples_eq (h : t.calm = s.calm) : t.dirt.winSamples = s.dirt.winSamples := congrArg (·.dirt.winSamples) h
theorem r_eq (h : t.calm = s.calm) : t.pack.r = s.pack.r := congrArg (·.pack.r) h
theorem v_eq (h : t.calm = s.calm) : t.pack.v = s.pack.v := congrArg (·.pack.v) h
theorem budget_eq (h : t.calm = s.calm) : t.pack.budget = s.pack.budget := congrArg (·.pack.budget) h
theorem presence_eq (h : t.calm = s.calm) : t.charge.presence = s.charge.presence := congrArg (·.charge.presence) h
theorem dock_eq (h : t.calm = s.calm) : t.charge.dock = s.charge.dock := congrArg (·.charge.dock) h
theorem helloWait_eq (h : t.calm = s.calm) : t.charge.helloWait = s.charge.helloWait := congrArg (·.charge.helloWait) h
theorem silence_eq (h : t.calm = s.calm) : t.charge.silence = s.charge.silence := congrArg (·.charge.silence) h
theorem report_eq (h : t.calm = s.calm) : t.charge.report = s.charge.report := congrArg (·.charge.report) h
theorem powerState_eq (h : t.calm = s.calm) : t.power.state = s.power.state := congrArg (·.power.state) h
theorem held_eq (h : t.calm = s.calm) : t.power.held = s.power.held := congrArg (·.power.held) h
theorem settle_eq (h : t.calm = s.calm) : t.power.settle = s.power.settle := congrArg (·.power.settle) h
theorem shipPending_eq (h : t.calm = s.calm) : t.power.shipPending = s.power.shipPending :=
  congrArg (·.power.shipPending) h
theorem chord_eq (h : t.calm = s.calm) : t.power.chord = s.power.chord := congrArg (·.power.chord) h
theorem clock_eq (h : t.calm = s.calm) : t.power.clock = s.power.clock := congrArg (·.power.clock) h
theorem pending_eq (h : t.calm = s.calm) : t.pending = s.pending := congrArg Calm.pending h
theorem idleSpan_eq (h : t.calm = s.calm) : t.idleSpan = s.idleSpan := congrArg Calm.idleSpan h
theorem chSlot_eq (h : t.calm = s.calm) : t.frame.chSlot = s.frame.chSlot := congrArg (·.frame.chSlot) h
theorem txBuf_eq (h : t.calm = s.calm) : t.frame.txBuf = s.frame.txBuf := congrArg (·.frame.txBuf) h
theorem waiting_eq (h : t.calm = s.calm) : t.frame.waiting = s.frame.waiting := congrArg (·.frame.waiting) h
theorem sending_eq (h : t.calm = s.calm) : t.frame.sending = s.frame.sending := congrArg (·.frame.sending) h
theorem counts_eq (h : t.calm = s.calm) : t.frame.counts = s.frame.counts := congrArg (·.frame.counts) h
theorem channels_eq (h : t.calm = s.calm) : t.tables.channels = s.tables.channels := congrArg (·.tables.channels) h
theorem scan_eq (h : t.calm = s.calm) : t.tables.scan = s.tables.scan := congrArg (·.tables.scan) h
theorem packTable_eq (h : t.calm = s.calm) : t.tables.pack = s.tables.pack := congrArg (·.tables.pack) h
theorem dirtTable_eq (h : t.calm = s.calm) : t.tables.dirt = s.tables.dirt := congrArg (·.tables.dirt) h
theorem systemTable_eq (h : t.calm = s.calm) : t.tables.system = s.tables.system := congrArg (·.tables.system) h

/-- Being awake and being live are read from the calm part. -/
theorem awake_eq (h : t.calm = s.calm) : t.awake = s.awake := by
  simp only [State.awake, powerState_eq h, held_eq h]

theorem live_eq (h : t.calm = s.calm) : t.live = s.live := by
  simp only [State.live, powerState_eq h, held_eq h]

end Calm

end Sys2Proof.Machine
end

