-- ==== Sys2Proof/Laws/Settled.lean ====
section
/-! SUPPORT. What `settled` and its parts do to the motor, the pack path and the condition flags. -/

namespace Sys2Proof.Machine.State

/-! ### Drive unit: every part but the run demand and an aborted probe leaves it alone -/

@[simp] theorem endCond_drive (s : State) (k : CauseKind) : (s.endCond k).drive = s.drive := by
  unfold endCond; split <;> rfl

@[simp] theorem writeRecord_drive (s : State) (r : LogRecord) : (s.writeRecord r).drive = s.drive := rfl

@[simp] theorem takeUp_drive (s : State) (t : TableId) : (s.takeUp t).drive = s.drive := by
  unfold takeUp; split <;> rfl

@[simp] theorem setBand_drive (s : State) (b : Nat) : (s.setBand b).drive = s.drive := by
  unfold setBand; split <;> rfl

@[simp] theorem planRunExit_drive (s : State) : s.planRunExit.drive = s.drive := by
  have h : s.planRunExit.drive = (s.setBand 0).drive := by unfold planRunExit; rw [endCond_drive]
  rw [h, setBand_drive]

@[simp] theorem fullAnchor_drive (s : State) : s.fullAnchor.drive = s.drive := by
  have h : s.fullAnchor.drive = s.learnCapacity.drive := rfl
  rw [h]; unfold learnCapacity; split <;> rfl

@[simp] theorem enterPhase_drive (s : State) (p : Nat) : (s.enterPhase p).drive = s.drive := by
  unfold enterPhase; dsimp only; split
  · rw [fullAnchor_drive]; rfl
  · rfl

@[simp] theorem openCharge_drive (s : State) : s.openCharge.drive = s.drive := by
  unfold openCharge; rw [enterPhase_drive]

@[simp] theorem choosePath_drive (s : State) : s.choosePath.drive = s.drive := by
  unfold choosePath; split
  · split
    · rfl
    · split <;> simp
    · rfl
  · rfl

@[simp] theorem formKeep_drive (s : State) : s.formKeep.drive = s.drive := by
  unfold formKeep; split
  · split <;> rfl
  · split
    · rfl
    · rw [endCond_drive]

@[simp] theorem formIdle_drive (s : State) : s.formIdle.drive = s.drive := by
  unfold formIdle; split
  · split <;> rfl
  · rfl

@[simp] theorem openFromDischarge_drive (s : State) : s.openFromDischarge.drive = s.drive := by
  unfold openFromDischarge; split <;> rfl

@[simp] theorem closeChargeLog_drive (s : State) (w : EndReason) : (s.closeChargeLog w).drive = s.drive := by
  unfold closeChargeLog; split
  · split <;> rfl
  · rfl

@[simp] theorem closeClean_drive (s : State) (w : EndReason) : (s.closeClean w).drive = s.drive := by
  unfold closeClean; split
  · split <;> rfl
  · rfl

@[simp] theorem openFromCharge_drive (s : State) (w : EndReason) : (s.openFromCharge w).drive = s.drive := by
  unfold openFromCharge; split
  · simp
  · rfl

@[simp] theorem logMotorStart_drive (s : State) : s.logMotorStart.drive = s.drive := by
  unfold logMotorStart; split
  · rfl
  · split <;> rfl

theorem abortProbe_of_ne (s : State) (w : ProbeResult) (h : s.drive.motor ≠ .probe) : s.abortProbe w = s := by
  unfold abortProbe; rw [if_neg h]

theorem formHold_drive (s : State) (h : s.drive.motor ≠ .probe) : s.formHold.drive = s.drive := by
  unfold formHold; split
  · rfl
  · dsimp only; split
    · rw [abortProbe_of_ne]; exact h
    · rfl

/-- The drive unit's record but for the bookkeeping of starts. -/
def SameDrive (s t : State) : Prop :=
  t.drive = { s.drive with
    demand := t.drive.demand, attempts := t.drive.attempts, retry := t.drive.retry, waitStop := t.drive.waitStop }

theorem SameDrive.of_eq {s t : State} (h : t.drive = s.drive) : SameDrive s t := by
  unfold SameDrive; rw [h]

theorem SameDrive.trans {s t u : State} (h : SameDrive s t) (h' : SameDrive t u) : SameDrive s u := by
  unfold SameDrive at *; rw [h'] ; rw [h]

theorem SameDrive.motor {s t : State} (h : SameDrive s t) : t.drive.motor = s.drive.motor :=
  (congrArg Drive.motor h).trans rfl

/-- The bridge is off by the motor's own state: COAST or LOCKOUT. -/
def FreeWheels (s : State) : Prop := s.drive.motor = .coast ∨ s.drive.motor = .lockout

theorem FreeWheels.of_same {s t : State} (h : FreeWheels s) (e : SameDrive s t) : FreeWheels t := by
  unfold FreeWheels at *; rw [e.motor]; exact h

theorem formDemand_same (s : State) (h : FreeWheels s) : SameDrive s s.formDemand := by
  have hs : s.drive.motor ≠ .stopped := by rcases h with h | h <;> simp [h]
  have hp : s.drive.motor ≠ .probe := by rcases h with h | h <;> simp [h]
  have hc : coasting s.drive.motor = false := by rcases h with h | h <;> simp [h, coasting]
  unfold formDemand; dsimp only; split
  · exact SameDrive.of_eq rfl
  · split
    · unfold freshDemand; dsimp only; rw [if_neg hp]; unfold startIfDue
      rw [if_neg (fun x => hs x.1)]; rfl
    · unfold withdraw; dsimp only; rw [hc, if_neg (by simp)]; rfl

theorem formAll_same (s : State) (h : FreeWheels s) : SameDrive s s.formAll := by
  have e0 : SameDrive s s.formKeep := .of_eq (by simp)
  have h0 := h.of_same e0
  have hp : s.formKeep.drive.motor ≠ .probe := by rcases h0 with h | h <;> rw [h] <;> decide
  have e1 : SameDrive s s.formKeep.formHold := e0.trans (.of_eq (formHold_drive _ hp))
  have e2 : SameDrive s s.formKeep.formHold.choosePath.formRequest := e1.trans (.of_eq (by simp))
  have e3 := e2.trans (formDemand_same _ (h.of_same e2))
  exact e3.trans (.of_eq (by simp [formAll]))

/-- `settled` leaves a coasting or locked-out motor's drive unit alone but for the bookkeeping of starts. -/
theorem settled_same (s : State) (h : FreeWheels s) : SameDrive s s.settled :=
  (formAll_same s h).trans (formAll_same _ (h.of_same (formAll_same s h)))

/-! ### Entry into COAST -/

theorem takeUpDrive_of_none (s : State) (h : s.isPending .drive = false) : s.takeUpDrive = s := by
  unfold takeUpDrive; rw [h]; rfl

/-- Outside RUN, with S_t at 0, a DRIVE changeover leaves the drive unit's record alone. -/
theorem takeUpDrive_drive (s : State) (h0 : s.drive.sT = 0) (hm : s.drive.motor ≠ .run) :
    s.takeUpDrive.drive = s.drive := by
  unfold takeUpDrive; split
  · have h : (s.takeUp .drive).drive = s.drive := takeUp_drive _ _
    unfold driveChangeover; dsimp only
    rw [h, if_neg hm, show min s.drive.sT (s.takeUp .drive).speedMax = s.drive.sT by omega]
  · rfl

/-- The drive unit's record at an entry into COAST. -/
theorem enterCoast_drive (s : State) : s.enterCoast.drive = s.drive.toCoast := by
  unfold enterCoast; split
  · rw [takeUpDrive_drive] <;> simp [Drive.toCoast]
  · rw [takeUpDrive_drive] <;> simp [Drive.toCoast]

theorem enterCoast_free (s : State) : FreeWheels s.enterCoast := Or.inl (by rw [enterCoast_drive]; rfl)

/-- An entry into COAST with its follow-up: COAST, every switch off. -/
theorem coast_settled (s : State) :
    s.enterCoast.settled.drive.motor = .coast ∧ s.enterCoast.settled.calm = s.calm := by
  refine ⟨?_, (settled_calm _).trans (enterCoast_calm s)⟩
  rw [(settled_same _ (enterCoast_free s)).motor, enterCoast_drive]; rfl

theorem bridge_off (s : State) (h : driving s.drive.motor = false) : s.bridge = none := by
  unfold bridge; rw [h]; simp

theorem FreeWheels.not_driving {s : State} (h : FreeWheels s) : driving s.drive.motor = false := by
  rcases h with h | h <;> rw [h] <;> rfl

/-! ### Condition flags: what ends, and that nothing else changes -/

/-- The condition flag of every kind but the listed ones is as before. -/
def SameCond (ks : List CauseKind) (s t : State) : Prop :=
  t.cause.present.length = s.cause.present.length ∧ ∀ k, k ∉ ks → t.cond k = s.cond k

theorem SameCond.refl (ks : List CauseKind) (s : State) : SameCond ks s s := ⟨rfl, fun _ _ => rfl⟩

theorem SameCond.of_eq {ks : List CauseKind} {s t : State} (h : t.cause.present = s.cause.present) :
    SameCond ks s t := by
  refine ⟨by rw [h], fun k _ => ?_⟩
  unfold cond; rw [h]

theorem SameCond.trans {ks : List CauseKind} {s t u : State} (h : SameCond ks s t) (h' : SameCond ks t u) :
    SameCond ks s u :=
  ⟨h'.1.trans h.1, fun k hk => (h'.2 k hk).trans (h.2 k hk)⟩

theorem SameCond.mono {ks ls : List CauseKind} {s t : State} (h : SameCond ks s t) (hs : ∀ k, k ∈ ks → k ∈ ls) :
    SameCond ls s t := ⟨h.1, fun k hk => h.2 k fun x => hk (hs k x)⟩

theorem kindNum_inj {j k : CauseKind} (h : kindNum j = kindNum k) : j = k := by
  cases j <;> cases k <;> first | rfl | (simp [kindNum] at h)

theorem kindNum_pos (k : CauseKind) : 1 ≤ kindNum k := by cases k <;> simp [kindNum]

theorem getD_set_ne {α : Type} (xs : List α) (i j : Nat) (x d : α) (h : i ≠ j) :
    (xs.set i x).getD j d = xs.getD j d := by
  simp [List.getD_eq_getElem?_getD, h]

theorem getD_set_eq {α : Type} (xs : List α) (i : Nat) (x d : α) (h : i < xs.length) :
    (xs.set i x).getD i d = x := by
  simp [List.getD_eq_getElem?_getD, h]

theorem sameCond_set (s t : State) (k : CauseKind) (b : Bool)
    (h : t.cause.present = s.cause.present.set (kindNum k - 1) b) : SameCond [k] s t := by
  refine ⟨by rw [h]; simp, fun j hj => ?_⟩
  unfold cond; split
  · rfl
  · rw [h, getD_set_ne]
    intro e; apply hj
    have := kindNum_pos k
    have := kindNum_pos j
    have : kindNum j = kindNum k := by omega
    simp [kindNum_inj this]

theorem setCond_cond (s : State) (k : CauseKind) (b : Bool) : SameCond [k] s (s.setCond k b) :=
  sameCond_set _ _ _ _ rfl

theorem endCond_cond (s : State) (k : CauseKind) : SameCond [k] s (s.endCond k) := by
  unfold endCond; split
  · exact sameCond_set _ _ _ _ rfl
  · exact SameCond.refl _ _

/-- A condition that has ended is absent. -/
theorem endCond_self (s : State) (k : CauseKind) : (s.endCond k).cond k = false := by
  unfold endCond; split <;> rename_i hc
  · unfold cond; split
    · rfl
    · simp only [List.getD_eq_getElem?_getD, List.getElem?_set]; split
      · split <;> rfl
      · contradiction
  · simpa using hc

/-- A condition that was set is present, where the flags have a place for it. -/
theorem setCond_self (s : State) (k : CauseKind) (h : isInfo k = false) (hl : kindNum k - 1 < s.cause.present.length) :
    (s.setCond k true).cond k = true := by
  unfold cond setCond; rw [h]
  exact getD_set_eq _ _ _ _ hl

theorem cond_kinds (k : CauseKind) (h : isInfo k = false) : kindNum k - 1 < 16 := by
  cases k <;> first | decide | (exact absurd h (by decide))

@[simp] theorem occur_present (s : State) (k : CauseKind) (d e : Nat) :
    (s.occur k d e).cause.present = s.cause.present := rfl
@[simp] theorem raiseInfo_present (s : State) (k : CauseKind) (d e : Nat) :
    (s.raiseInfo k d e).cause.present = s.cause.present := rfl
@[simp] theorem writeRecord_present (s : State) (r : LogRecord) :
    (s.writeRecord r).cause.present = s.cause.present := rfl

@[simp] theorem takeUp_present (s : State) (t : TableId) : (s.takeUp t).cause.present = s.cause.present := by
  unfold takeUp; split <;> rfl

@[simp] theorem takeUpDrive_present (s : State) : s.takeUpDrive.cause.present = s.cause.present := by
  unfold takeUpDrive; split
  · exact takeUp_present s .drive
  · rfl

@[simp] theorem setBand_present (s : State) (b : Nat) : (s.setBand b).cause.present = s.cause.present := by
  unfold setBand; split <;> rfl

@[simp] theorem fullAnchor_present (s : State) : s.fullAnchor.cause.present = s.cause.present := by
  have h : s.fullAnchor.cause = s.learnCapacity.cause := rfl
  rw [h]; unfold learnCapacity; split <;> rfl

@[simp] theorem enterPhase_present (s : State) (p : Nat) : (s.enterPhase p).cause.present = s.cause.present := by
  unfold enterPhase; dsimp only; split
  · rw [fullAnchor_present]; rfl
  · rfl

@[simp] theorem openCharge_present (s : State) : s.openCharge.cause.present = s.cause.present := by
  unfold openCharge; rw [enterPhase_present]

@[simp] theorem choosePath_present (s : State) : s.choosePath.cause.present = s.cause.present := by
  unfold choosePath; split
  · split
    · rfl
    · split <;> simp
    · rfl
  · rfl

@[simp] theorem openFromDischarge_present (s : State) :
    s.openFromDischarge.cause.present = s.cause.present := by
  unfold openFromDischarge; split <;> rfl

@[simp] theorem closeChargeLog_present (s : State) (w : EndReason) :
    (s.closeChargeLog w).cause.present = s.cause.present := by
  unfold closeChargeLog; split
  · split <;> rfl
  · rfl

@[simp] theorem closeClean_present (s : State) (w : EndReason) :
    (s.closeClean w).cause.present = s.cause.present := by
  unfold closeClean; split
  · split <;> rfl
  · rfl

@[simp] theorem openFromCharge_present (s : State) (w : EndReason) :
    (s.openFromCharge w).cause.present = s.cause.present := by
  unfold openFromCharge; split
  · simp only [takeUp_present]; exact (closeChargeLog_present _ w).trans rfl
  · rfl

@[simp] theorem startIfDue_present (s : State) : s.startIfDue.cause.present = s.cause.present := by
  unfold startIfDue startSequence; split
  · unfold logMotorStart; split
    · rfl
    · split <;> rfl
  · rfl

theorem planRunExit_cond (s : State) : SameCond [.blockage] s s.planRunExit := by
  unfold planRunExit
  exact (SameCond.of_eq (by simp)).trans (endCond_cond _ .blockage)

theorem enterCoast_cond (s : State) : SameCond [.blockage] s s.enterCoast := by
  have base : SameCond [.blockage] s (State.mk s.acq s.drive.toCoast s.plan s.dirt s.pack s.charge s.modem s.frame
      s.tables s.cause s.log s.power s.pending s.idleSpan s.freeCtr) := SameCond.of_eq rfl
  unfold enterCoast; split
  · exact (base.trans (planRunExit_cond _)).trans (SameCond.of_eq (by simp))
  · exact base.trans (SameCond.of_eq (by simp))

theorem restStopped_cond (s : State) : SameCond [.lostSync] s s.restStopped := by
  have base : SameCond [.lostSync] s (State.mk s.acq s.drive.toStopped s.plan s.dirt s.pack s.charge s.modem s.frame
      s.tables s.cause s.log s.power s.pending s.idleSpan s.freeCtr) := SameCond.of_eq rfl
  unfold restStopped; dsimp only; split
  · exact ((base.trans (endCond_cond _ .lostSync)).trans (SameCond.of_eq (takeUpDrive_present _))).trans
      (SameCond.of_eq (openFromDischarge_present _))
  · exact (base.trans (endCond_cond _ .lostSync)).trans (SameCond.of_eq (takeUpDrive_present _))

theorem endProbe_cond (s : State) (w : ProbeResult) (f : List Bool) : SameCond [.lostSync] s (s.endProbe w f) := by
  unfold endProbe
  exact (restStopped_cond s).trans (SameCond.of_eq (by simp))

theorem abortProbe_cond (s : State) (w : ProbeResult) : SameCond [.lostSync] s (s.abortProbe w) := by
  unfold abortProbe; split
  · exact endProbe_cond _ _ _
  · exact SameCond.refl _ _

/-- The kinds that a follow-up may end. -/
def followUpEnds : List CauseKind := [.linkWatchdog, .lostSync, .blockage]

theorem formKeep_cond (s : State) : SameCond followUpEnds s s.formKeep := by
  unfold formKeep; split
  · split
    · exact SameCond.of_eq rfl
    · exact SameCond.refl _ _
  · split
    · exact SameCond.refl _ _
    · exact ((SameCond.of_eq rfl).trans (endCond_cond _ .linkWatchdog)).mono (by simp [followUpEnds])

theorem formHold_cond (s : State) : SameCond followUpEnds s s.formHold := by
  unfold formHold; split
  · exact SameCond.refl _ _
  · dsimp only; split
    · exact ((SameCond.of_eq rfl).trans (abortProbe_cond _ _)).mono (by simp [followUpEnds])
    · exact SameCond.of_eq rfl

theorem formDemand_cond (s : State) : SameCond followUpEnds s s.formDemand := by
  unfold formDemand; dsimp only; split
  · exact SameCond.refl _ _
  · split
    · unfold freshDemand; dsimp only; split
      · exact ((SameCond.of_eq rfl).trans (abortProbe_cond _ _)).mono (by simp [followUpEnds])
      · exact SameCond.of_eq (by simp)
    · unfold withdraw; dsimp only; split
      · exact ((SameCond.of_eq rfl).trans (enterCoast_cond _)).mono (by simp [followUpEnds])
      · exact SameCond.of_eq rfl

theorem formIdle_cond (s : State) : SameCond followUpEnds s s.formIdle := by
  unfold formIdle; split
  · split <;> exact SameCond.of_eq rfl
  · exact SameCond.of_eq rfl

theorem formAll_cond (s : State) : SameCond followUpEnds s s.formAll := by
  unfold formAll
  have h1 := (formKeep_cond s).trans (formHold_cond _)
  have h2 := h1.trans (SameCond.of_eq (choosePath_present _))
  have h3 := (h2.trans (SameCond.of_eq (t := s.formKeep.formHold.choosePath.formRequest) rfl)).trans
    (formDemand_cond _)
  have h4 := h3.trans (SameCond.of_eq
    (t := s.formKeep.formHold.choosePath.formRequest.formDemand.formCap) rfl)
  exact h4.trans (formIdle_cond _)

/-- A follow-up ends no condition but LINK_WATCHDOG, LOST_SYNC and BLOCKAGE, and begins none. -/
theorem settled_cond (s : State) : SameCond followUpEnds s s.settled := (formAll_cond s).trans (formAll_cond _)


/-! ### The trip latch and the end of a probe -/

@[simp] theorem endCond_trip (s : State) (k : CauseKind) : (s.endCond k).cause.trip = s.cause.trip := by
  unfold endCond; split <;> rfl
@[simp] theorem takeUp_trip (s : State) (t : TableId) : (s.takeUp t).cause.trip = s.cause.trip := by
  unfold takeUp; split <;> rfl
@[simp] theorem takeUpDrive_trip (s : State) : s.takeUpDrive.cause.trip = s.cause.trip := by
  unfold takeUpDrive; split
  · exact takeUp_trip s .drive
  · rfl
@[simp] theorem setBand_trip (s : State) (b : Nat) : (s.setBand b).cause.trip = s.cause.trip := by
  unfold setBand; split <;> rfl
@[simp] theorem planRunExit_trip (s : State) : s.planRunExit.cause.trip = s.cause.trip := by
  unfold planRunExit; simp
@[simp] theorem enterCoast_trip (s : State) : s.enterCoast.cause.trip = s.cause.trip := by
  unfold enterCoast; rw [takeUpDrive_trip]; split
  · simp
  · rfl
@[simp] theorem openFromDischarge_trip (s : State) : s.openFromDischarge.cause.trip = s.cause.trip := by
  unfold openFromDischarge; split <;> rfl
@[simp] theorem closeChargeLog_trip (s : State) (w : EndReason) : (s.closeChargeLog w).cause.trip = s.cause.trip := by
  unfold closeChargeLog; split
  · split <;> rfl
  · rfl
@[simp] theorem openFromCharge_trip (s : State) (w : EndReason) : (s.openFromCharge w).cause.trip = s.cause.trip := by
  unfold openFromCharge; split
  · simp only [takeUp_trip]; exact (closeChargeLog_trip _ w).trans rfl
  · rfl
@[simp] theorem restStopped_trip (s : State) : s.restStopped.cause.trip = s.cause.trip := by
  unfold restStopped; dsimp only; split <;> simp
@[simp] theorem startIfDue_trip (s : State) : s.startIfDue.cause.trip = s.cause.trip := by
  unfold startIfDue startSequence; split
  · unfold logMotorStart; split
    · rfl
    · split <;> rfl
  · rfl

/-- The drive unit's record at an entry into STOPPED. -/
theorem restStopped_drive (s : State) : s.restStopped.drive = s.drive.toStopped := by
  have h : ∀ t : State, t.drive = s.drive.toStopped → t.takeUpDrive.drive = s.drive.toStopped := fun t e => by
    rw [takeUpDrive_drive t (by rw [e]; rfl) (by rw [e]; simp [Drive.toStopped]), e]
  unfold restStopped; dsimp only; split
  · rw [openFromDischarge_drive]; exact h _ (by rw [endCond_drive])
  · exact h _ (by rw [endCond_drive])

/-- Nothing starts while the run request has no ground. -/
theorem startIfDue_of_not (s : State) (h : s.mayStart = false) : s.startIfDue = s := by
  unfold startIfDue; rw [h, if_neg (by simp)]

theorem mayStart_of_trip (s : State) (h : s.cause.trip = true) : s.mayStart = false := by
  unfold mayStart runRequestNow; rw [h]; simp

/-- Under the trip latch a probe ends STOPPED and starts nothing. -/
theorem endProbe_trip_drive (s : State) (w : ProbeResult) (f : List Bool) (h : s.cause.trip = true) :
    (s.endProbe w f).drive = s.drive.toStopped ∧ (s.endProbe w f).cause.trip = true := by
  unfold endProbe
  rw [startIfDue_of_not]
  · exact ⟨restStopped_drive s, (restStopped_trip s).trans h⟩
  · exact mayStart_of_trip _ ((restStopped_trip s).trans h)

/-- Under the latch, an aborted probe or none: no driving state is left by an abort that was not there before. -/
theorem abortProbe_trip (s : State) (w : ProbeResult) (h : s.cause.trip = true) :
    ((s.abortProbe w).drive = s.drive ∨ (s.abortProbe w).drive = s.drive.toStopped) ∧
    (s.abortProbe w).cause.trip = true ∧ (s.abortProbe w).drive.motor ≠ .probe := by
  unfold abortProbe; split <;> rename_i hm
  · have := endProbe_trip_drive s w (List.replicate 7 false) h
    refine ⟨.inr this.1, this.2, ?_⟩
    rw [this.1]; simp [Drive.toStopped]
  · exact ⟨.inl rfl, h, hm⟩

@[simp] theorem tripDrive_trip (s : State) : s.tripDrive.cause.trip = s.cause.trip := by
  unfold tripDrive cancelRetry; split
  · simp
  · unfold endLockout; split <;> simp

/-- After the drive unit's part of a trip the motor coasts, probes or rests. -/
theorem tripDrive_drive (s : State) :
    s.tripDrive.drive.retry = none ∧
    (s.tripDrive.drive.motor = .coast ∨ s.tripDrive.drive.motor = .stopped ∨ s.tripDrive.drive.motor = .probe) := by
  refine ⟨rfl, ?_⟩
  have h : s.tripDrive.drive.motor = (if coasting s.drive.motor then s.enterCoast else s.endLockout).drive.motor := rfl
  rw [h]; split <;> rename_i hc
  · rw [enterCoast_drive]; exact .inl rfl
  · unfold endLockout; split <;> rename_i hl
    · rw [endCond_drive, enterCoast_drive]; exact .inl rfl
    · revert hc hl; cases s.drive.motor <;> simp [coasting]

theorem openFromDischarge_path (s : State) : s.openFromDischarge.charge.path ≠ .discharge := by
  unfold openFromDischarge; split
  · simp [openPath]
  · assumption

@[simp] theorem takeUp_charge (s : State) (t : TableId) : (s.takeUp t).charge = s.charge := by
  unfold takeUp; split <;> rfl
@[simp] theorem closeChargeLog_charge (s : State) (w : EndReason) : (s.closeChargeLog w).charge = s.charge := by
  unfold closeChargeLog; split
  · split <;> rfl
  · rfl

theorem openFromCharge_path (s : State) (w : EndReason) (h : s.charge.path ≠ .discharge) :
    (s.openFromCharge w).charge.path = .opened := by
  unfold openFromCharge; split
  · simp [openPath]
  · revert h; rename_i h; revert h; cases s.charge.path <;> simp

/-- The setting of the trip latch: the latch set, the bridge off, the dwell cancelled, the path OPEN. -/
theorem setTrip_spec (s : State) (h : s.cause.trip = false) :
    s.setTrip.cause.trip = true ∧ (s.setTrip.drive.motor = .coast ∨ s.setTrip.drive.motor = .stopped) ∧
    s.setTrip.drive.retry = none ∧ s.setTrip.charge.path = .opened := by
  unfold setTrip; rw [h]; simp only [if_neg (by decide : ¬ (false = true))]
  generalize hX : ({ s with cause := { s.cause with trip := true } } : State) = X
  have hX1 : X.cause.trip = true := by rw [← hX]
  obtain ⟨r1, r2⟩ := tripDrive_drive X
  obtain ⟨a1, a2, a3⟩ := abortProbe_trip X.tripDrive .abortedFault (by rw [tripDrive_trip]; exact hX1)
  refine ⟨by simpa using a2, ?_, ?_, openFromCharge_path _ _ (openFromDischarge_path _)⟩
  · simp only [openFromCharge_drive, openFromDischarge_drive]
    rcases a1 with e | e
    · rw [e] at a3 ⊢; rcases r2 with r | r | r
      · exact .inl r
      · exact .inr r
      · exact absurd r a3
    · rw [e]; exact .inr rfl
  · simp only [openFromCharge_drive, openFromDischarge_drive]
    rcases a1 with e | e <;> rw [e]
    · exact r1
    · exact r1

/-- The bridge is off and the speed tracked: what a run leaves behind. -/
structure Coasts (s : State) (m : Nat) : Prop where
  free : FreeWheels s
  duty : s.drive.duty = 0
  sT : s.drive.sT = 0
  hold : s.drive.hold = none
  sM : s.drive.sM = m

theorem Coasts.of_same {s t : State} {m : Nat} (h : Coasts s m) (e : SameDrive s t) : Coasts t m := by
  refine ⟨h.free.of_same e, ?_, ?_, ?_, ?_⟩
  · rw [e]; exact h.duty
  · rw [e]; exact h.sT
  · rw [e]; exact h.hold
  · rw [e]; exact h.sM

theorem enterCoast_coasts (s : State) : Coasts s.enterCoast s.drive.sM := by
  refine ⟨enterCoast_free s, ?_, ?_, ?_, ?_⟩ <;> rw [enterCoast_drive] <;> rfl

theorem Coasts.setTrip {s : State} {m : Nat} (h : Coasts s m) : Coasts s.setTrip m := by
  unfold State.setTrip; split
  · exact h
  · generalize hX : ({ s with cause := { s.cause with trip := true } } : State) = X
    have hX1 : Coasts X m := by rw [← hX]; exact ⟨h.1, h.2, h.3, h.4, h.5⟩
    have ht : Coasts X.tripDrive m := by
      unfold tripDrive
      have hc : coasting X.drive.motor = false := by rcases hX1.free with e | e <;> rw [e] <;> rfl
      rw [hc, if_neg (by decide)]
      unfold endLockout; split
      · have e := enterCoast_coasts X
        rw [hX1.sM] at e
        have e' : Coasts (X.enterCoast.endCond .startFail) m := e.of_same (.of_eq (by simp))
        exact ⟨e'.1, e'.2, e'.3, e'.4, e'.5⟩
      · exact ⟨hX1.1, hX1.2, hX1.3, hX1.4, hX1.5⟩
    have hp : X.tripDrive.drive.motor ≠ .probe := by rcases ht.free with e | e <;> rw [e] <;> decide
    dsimp only
    rw [abortProbe_of_ne _ _ hp]
    exact ht.of_same (.of_eq (by simp))

/-- An onset leaves a coasting motor coasting. -/
theorem Coasts.raise {s : State} {m : Nat} (h : Coasts s m) (k : CauseKind) (d : Nat) (hk : k ≠ .overcurrent) :
    Coasts (s.raise k d) m := by
  unfold State.raise; split
  · exact h
  · simp only []
    have h1 : Coasts ((s.setCond k true).occur k d 0) m := ⟨h.1, h.2, h.3, h.4, h.5⟩
    split
    · exact h1.setTrip
    · exact h1

/-- The kinds that a trip or a failed attempt may end. -/
def tripEnds : List CauseKind := [.startFail, .lostSync, .blockage]

theorem setTrip_cond (s : State) : SameCond tripEnds s s.setTrip := by
  unfold setTrip; split
  · exact SameCond.refl _ _
  · generalize hX : ({ s with cause := { s.cause with trip := true } } : State) = X
    have e0 : SameCond tripEnds s X := by rw [← hX]; exact SameCond.of_eq rfl
    have e1 : SameCond tripEnds X X.tripDrive := by
      unfold tripDrive cancelRetry
      refine SameCond.trans ?_ (SameCond.of_eq rfl)
      split
      · exact (enterCoast_cond X).mono (by simp [tripEnds])
      · unfold endLockout; split
        · exact ((enterCoast_cond X).mono (by simp [tripEnds])).trans
            ((endCond_cond _ .startFail).mono (by simp [tripEnds]))
        · exact SameCond.refl _ _
    have e2 : SameCond tripEnds X.tripDrive (X.tripDrive.abortProbe .abortedFault) :=
      (abortProbe_cond _ _).mono (by simp [tripEnds])
    exact ((e0.trans e1).trans e2).trans (SameCond.of_eq (by simp))

theorem overcurrentOff_cond (s : State) : SameCond tripEnds s s.overcurrentOff := by
  unfold overcurrentOff cancelRetry
  refine SameCond.trans ?_ (SameCond.of_eq rfl)
  split
  · exact (enterCoast_cond s).mono (by simp [tripEnds])
  · exact (abortProbe_cond s _).mono (by simp [tripEnds])

/-- From COAST or LOCKOUT a trip ends START_FAIL and BLOCKAGE at most. -/
theorem FreeWheels.setTrip_cond {s : State} (h : FreeWheels s) :
    SameCond [.startFail, .blockage] s s.setTrip := by
  unfold State.setTrip; split
  · exact SameCond.refl _ _
  · generalize hX : ({ s with cause := { s.cause with trip := true } } : State) = X
    have e0 : SameCond [.startFail, .blockage] s X := by rw [← hX]; exact SameCond.of_eq rfl
    have hX1 : FreeWheels X := by rw [← hX]; exact h
    have hc : coasting X.drive.motor = false := by rcases hX1 with e | e <;> rw [e] <;> rfl
    have hp : X.tripDrive.drive.motor ≠ .probe ∧ SameCond [.startFail, .blockage] X X.tripDrive := by
      unfold tripDrive cancelRetry
      rw [hc, if_neg (by decide)]
      unfold endLockout; split <;> rename_i hl
      · refine ⟨?_, ((enterCoast_cond X).mono (by simp)).trans
          (((endCond_cond _ .startFail).mono (by simp)).trans (SameCond.of_eq rfl))⟩
        show (X.enterCoast.endCond .startFail).drive.motor ≠ _
        rw [endCond_drive, enterCoast_drive]; simp [Drive.toCoast]
      · refine ⟨?_, SameCond.of_eq rfl⟩
        show X.drive.motor ≠ _
        rcases hX1 with e | e <;> rw [e] <;> decide
    dsimp only
    rw [abortProbe_of_ne _ _ hp.1]
    exact (e0.trans hp.2).trans (SameCond.of_eq (by simp))

/-- From COAST or LOCKOUT an onset sets its flag and ends START_FAIL and BLOCKAGE at most. -/
theorem FreeWheels.raise_cond {s : State} (h : FreeWheels s) (k : CauseKind) (d : Nat) (hk : k ≠ .overcurrent) :
    SameCond [k, .startFail, .blockage] s (s.raise k d) := by
  unfold State.raise; split
  · exact SameCond.refl _ _
  · simp only []
    have e0 : SameCond [k, .startFail, .blockage] s ((s.setCond k true).occur k d 0) :=
      ((setCond_cond s k true).trans (SameCond.of_eq rfl)).mono (by simp)
    have h1 : FreeWheels ((s.setCond k true).occur k d 0) := h
    split
    · exact e0.trans (h1.setTrip_cond.mono (by simp +contextual))
    · exact e0

/-- The flag of a condition just raised stands, where its own stop does not end it. -/
theorem FreeWheels.raise_self {s : State} (h : FreeWheels s) (k : CauseKind) (d : Nat) (hk : k ≠ .overcurrent)
    (hs : k ≠ .startFail) (hb : k ≠ .blockage) (hi : isInfo k = false) (hl : s.cause.present.length = 16) :
    (s.raise k d).cond k = true := by
  unfold State.raise; split
  · assumption
  · simp only []
    have e0 : ((s.setCond k true).occur k d 0).cond k = true :=
      setCond_self s k hi (by rw [hl]; exact cond_kinds k hi)
    have h1 : FreeWheels ((s.setCond k true).occur k d 0) := h
    split
    · rw [h1.setTrip_cond.2 k (by simp [hs, hb])]; exact e0
    · exact e0

/-- From COAST or LOCKOUT a follow-up ends LINK_WATCHDOG and BLOCKAGE at most. -/
theorem FreeWheels.formAll_cond {s : State} (h : FreeWheels s) :
    SameCond [.linkWatchdog, .blockage] s s.formAll := by
  have hk : SameCond [.linkWatchdog, .blockage] s s.formKeep := by
    unfold formKeep; split
    · split
      · exact SameCond.of_eq rfl
      · exact SameCond.refl _ _
    · split
      · exact SameCond.refl _ _
      · exact ((SameCond.of_eq rfl).trans (endCond_cond _ .linkWatchdog)).mono (by simp)
  have h0 : FreeWheels s.formKeep := h.of_same (.of_eq (by simp))
  have hp : s.formKeep.drive.motor ≠ .probe := by rcases h0 with e | e <;> rw [e] <;> decide
  have hh : SameCond [.linkWatchdog, .blockage] s.formKeep s.formKeep.formHold := by
    unfold formHold; split
    · exact SameCond.refl _ _
    · dsimp only; split
      · rw [abortProbe_of_ne _ _ (by exact hp)]; exact SameCond.of_eq rfl
      · exact SameCond.of_eq rfl
  have h1 : FreeWheels s.formKeep.formHold.choosePath.formRequest :=
    h0.of_same (.of_eq (by simp [formHold_drive _ hp]))
  have hd : ∀ t : State, FreeWheels t → SameCond [.linkWatchdog, .blockage] t t.formDemand := by
    intro t ht
    have hn : t.drive.motor ≠ .probe := by rcases ht with e | e <;> rw [e] <;> decide
    have hc : coasting t.drive.motor = false := by rcases ht with e | e <;> rw [e] <;> rfl
    unfold formDemand; dsimp only; split
    · exact SameCond.refl _ _
    · split
      · unfold freshDemand; dsimp only; rw [if_neg hn]; exact SameCond.of_eq (by simp)
      · unfold withdraw; dsimp only; rw [hc, if_neg (by decide)]; exact SameCond.of_eq rfl
  have h2 := (hk.trans hh).trans (SameCond.of_eq (choosePath_present _))
  have h3 := (h2.trans (SameCond.of_eq (t := s.formKeep.formHold.choosePath.formRequest) rfl)).trans (hd _ h1)
  refine h3.trans ?_
  unfold formAll formIdle
  split
  · split <;> exact SameCond.of_eq rfl
  · exact SameCond.of_eq rfl

theorem FreeWheels.settled_cond {s : State} (h : FreeWheels s) :
    SameCond [.linkWatchdog, .blockage] s s.settled :=
  h.formAll_cond.trans (FreeWheels.formAll_cond (h.of_same (formAll_same s h)))

/-- An onset changes no flag but its own and those of what it stops. -/
theorem raise_cond (s : State) (k : CauseKind) (d : Nat) : SameCond (k :: tripEnds) s (s.raise k d) := by
  unfold State.raise; split
  · exact SameCond.refl _ _
  · have e0 : SameCond (k :: tripEnds) s ((s.setCond k true).occur k d 0) :=
      ((setCond_cond s k true).trans (SameCond.of_eq rfl)).mono (by simp)
    have e1 : SameCond (k :: tripEnds) s
        (if k = .overcurrent then ((s.setCond k true).occur k d 0).overcurrentOff
          else (s.setCond k true).occur k d 0) := by
      split
      · exact e0.trans ((overcurrentOff_cond _).mono (by simp +contextual))
      · exact e0
    dsimp only; split
    · exact e1.trans ((setTrip_cond _).mono (by simp +contextual))
    · exact e1

end Sys2Proof.Machine.State
end

