-- ==== Sys2Proof/Laws/Closed.lean ====
section
/-! SUPPORT. What any event's follow-up keeps: a property of the drive unit that its transitions keep
(`settled_closed`), and the absence of a condition (`settled_ends`). -/

namespace Sys2Proof.Machine.State

/-! ### Properties of the drive unit -/

/-- A property of the drive unit's record that every transition an event's follow-up can make keeps. -/
structure DriveClosed (P : Drive → Prop) : Prop where
  coast : ∀ d, P d → coasting d.motor = true ∨ d.motor = .lockout → P d.toCoast
  stopped : ∀ d, P d → d.motor = .probe → P d.toStopped
  align : ∀ d, P d → d.motor = .stopped → P d.toAlign
  retry : ∀ d, P d → P { d with retry := none }
  rise : ∀ d, P d → P { d with demand := true, attempts := 0, retry := none, waitStop := false }
  fall : ∀ d, P d → P { d with demand := false, retry := none }

variable {P : Drive → Prop}

theorem enterCoast_closed (hP : DriveClosed P) (s : State) (h : P s.drive) (hm : coasting s.drive.motor = true ∨ s.drive.motor = .lockout) :
    P s.enterCoast.drive := by rw [enterCoast_drive]; exact hP.coast _ h hm

theorem restStopped_closed (hP : DriveClosed P) (s : State) (h : P s.drive) (hm : s.drive.motor = .probe) : P s.restStopped.drive := by
  rw [restStopped_drive]; exact hP.stopped _ h hm

theorem startIfDue_closed (hP : DriveClosed P) (s : State) (h : P s.drive) : P s.startIfDue.drive := by
  unfold startIfDue; split
  · rename_i hm; unfold startSequence; rw [logMotorStart_drive]; exact hP.align _ h hm.1
  · exact h

theorem endProbe_closed (hP : DriveClosed P) (s : State) (w : ProbeResult) (f : List Bool) (h : P s.drive) (hm : s.drive.motor = .probe) :
    P (s.endProbe w f).drive := by
  unfold endProbe; dsimp only; refine startIfDue_closed hP _ ?_; exact restStopped_closed hP s h hm

theorem abortProbe_closed (hP : DriveClosed P) (s : State) (w : ProbeResult) (h : P s.drive) : P (s.abortProbe w).drive := by
  unfold abortProbe; split
  · rename_i hm; exact endProbe_closed hP s w _ h hm
  · exact h

theorem endLockout_closed (hP : DriveClosed P) (s : State) (h : P s.drive) : P s.endLockout.drive := by
  unfold endLockout; split
  · rename_i hm; rw [endCond_drive]; exact enterCoast_closed hP s h (.inr hm)
  · exact h

theorem tripDrive_closed (hP : DriveClosed P) (s : State) (h : P s.drive) : P s.tripDrive.drive := by
  unfold tripDrive cancelRetry; refine hP.retry _ ?_; split
  · rename_i hm; exact enterCoast_closed hP s h (.inl hm)
  · exact endLockout_closed hP s h

theorem setTrip_closed (hP : DriveClosed P) (s : State) (h : P s.drive) : P s.setTrip.drive := by
  unfold setTrip; split
  · exact h
  · dsimp only; rw [openFromCharge_drive, openFromDischarge_drive]
    exact abortProbe_closed hP _ _ (tripDrive_closed hP _ h)

theorem overcurrentOff_closed (hP : DriveClosed P) (s : State) (h : P s.drive) : P s.overcurrentOff.drive := by
  unfold overcurrentOff cancelRetry; refine hP.retry _ ?_; split
  · rename_i hm; exact enterCoast_closed hP s h (.inl hm)
  · exact abortProbe_closed hP s _ h

theorem raise_closed (hP : DriveClosed P) (s : State) (k : CauseKind) (d : Nat) (h : P s.drive) : P (s.raise k d).drive := by
  unfold State.raise; split
  · exact h
  · dsimp only
    have h2 : P (if k = .overcurrent then ((s.setCond k true).occur k d 0).overcurrentOff else (s.setCond k true).occur k d 0).drive := by
      split
      · exact overcurrentOff_closed hP _ h
      · exact h
    split
    · exact setTrip_closed hP _ h2
    · exact h2

theorem formHold_closed (hP : DriveClosed P) (s : State) (h : P s.drive) : P s.formHold.drive := by
  unfold formHold; split
  · exact h
  · dsimp only; split
    · exact abortProbe_closed hP _ _ h
    · exact h

theorem formDemand_closed (hP : DriveClosed P) (s : State) (h : P s.drive) : P s.formDemand.drive := by
  unfold formDemand; dsimp only; split
  · exact h
  · split
    · unfold freshDemand; dsimp only; split
      · exact abortProbe_closed hP _ _ (hP.rise _ h)
      · exact startIfDue_closed hP _ (hP.rise _ h)
    · unfold withdraw; dsimp only; split
      · rename_i hm; exact enterCoast_closed hP _ (hP.fall _ h) (.inl hm)
      · exact hP.fall _ h

theorem formAll_closed (hP : DriveClosed P) (s : State) (h : P s.drive) : P s.formAll.drive := by
  unfold formAll; rw [formIdle_drive, show ∀ X : State, X.formCap.drive = X.drive from fun _ => rfl]
  refine formDemand_closed hP _ ?_
  rw [formRequest_drive, choosePath_drive]
  refine formHold_closed hP _ ?_
  rw [formKeep_drive]; exact h

theorem settled_closed (hP : DriveClosed P) (s : State) (h : P s.drive) : P s.settled.drive := by
  unfold settled; exact formAll_closed hP _ (formAll_closed hP _ h)

/-! ### Absent conditions -/

/-- No condition begins. -/
def Ends (s t : State) : Prop := t.cause.present.length = s.cause.present.length ∧ ∀ i, t.cause.present.getD i false = true → s.cause.present.getD i false = true

theorem Ends.refl (s : State) : Ends s s := ⟨rfl, fun _ h => h⟩
theorem Ends.of_eq {s t : State} (h : t.cause.present = s.cause.present) : Ends s t := ⟨by rw [h], fun i hi => by rw [h] at hi; exact hi⟩
theorem Ends.trans {s t u : State} (h : Ends s t) (h' : Ends t u) : Ends s u := ⟨h'.1.trans h.1, fun i hi => h.2 i (h'.2 i hi)⟩
theorem Ends.cond {s t : State} (h : Ends s t) (k : CauseKind) (hk : s.cond k = false) : t.cond k = false := by
  unfold State.cond at *; split at hk
  · rename_i hh; rw [if_pos hh]
  · rename_i hh; rw [if_neg hh]
    cases hc : t.cause.present.getD (kindNum k - 1) false
    · rfl
    · rw [h.2 _ hc] at hk; cases hk

theorem endCond_ends (s : State) (k : CauseKind) : Ends s (s.endCond k) := by
  unfold endCond; split
  · refine ⟨by simp, fun i hi => ?_⟩
    by_cases h : i = kindNum k - 1
    · subst h; simp [List.getD_eq_getElem?_getD, List.getElem?_set] at hi
      split at hi <;> simp at hi
    · have : ((s.cause.present.set (kindNum k - 1) false).getD i false) = s.cause.present.getD i false := by
        simp [List.getD_eq_getElem?_getD, List.getElem?_set]; rw [if_neg (fun h' => h h'.symm)]
      rw [← this]; exact hi
  · exact Ends.refl s

theorem planRunExit_ends (s : State) : Ends s s.planRunExit := by
  unfold planRunExit
  exact (Ends.of_eq (by simp)).trans (endCond_ends _ .blockage)

theorem enterCoast_ends (s : State) : Ends s s.enterCoast := by
  have base : Ends s (State.mk s.acq s.drive.toCoast s.plan s.dirt s.pack s.charge s.modem s.frame
      s.tables s.cause s.log s.power s.pending s.idleSpan s.freeCtr) := Ends.of_eq rfl
  unfold enterCoast; split
  · exact (base.trans (planRunExit_ends _)).trans (Ends.of_eq (by simp))
  · exact base.trans (Ends.of_eq (by simp))

theorem restStopped_ends (s : State) : Ends s s.restStopped := by
  have base : Ends s (State.mk s.acq s.drive.toStopped s.plan s.dirt s.pack s.charge s.modem s.frame
      s.tables s.cause s.log s.power s.pending s.idleSpan s.freeCtr) := Ends.of_eq rfl
  unfold restStopped; dsimp only; split
  · exact ((base.trans (endCond_ends _ .lostSync)).trans (Ends.of_eq (takeUpDrive_present _))).trans
      (Ends.of_eq (openFromDischarge_present _))
  · exact (base.trans (endCond_ends _ .lostSync)).trans (Ends.of_eq (takeUpDrive_present _))

theorem endProbe_ends (s : State) (w : ProbeResult) (f : List Bool) : Ends s (s.endProbe w f) := by
  unfold endProbe
  exact (restStopped_ends s).trans (Ends.of_eq (by simp))

theorem abortProbe_ends (s : State) (w : ProbeResult) : Ends s (s.abortProbe w) := by
  unfold abortProbe; split
  · exact endProbe_ends _ _ _
  · exact Ends.refl _

theorem formKeep_ends (s : State) : Ends s s.formKeep := by
  unfold formKeep; split
  · split
    · exact Ends.of_eq rfl
    · exact Ends.refl _
  · split
    · exact Ends.refl _
    · exact ((Ends.of_eq rfl).trans (endCond_ends _ .linkWatchdog))

theorem formHold_ends (s : State) : Ends s s.formHold := by
  unfold formHold; split
  · exact Ends.refl _
  · dsimp only; split
    · exact ((Ends.of_eq rfl).trans (abortProbe_ends _ _))
    · exact Ends.of_eq rfl

theorem formDemand_ends (s : State) : Ends s s.formDemand := by
  unfold formDemand; dsimp only; split
  · exact Ends.refl _
  · split
    · unfold freshDemand; dsimp only; split
      · exact ((Ends.of_eq rfl).trans (abortProbe_ends _ _))
      · exact Ends.of_eq (by simp)
    · unfold withdraw; dsimp only; split
      · exact ((Ends.of_eq rfl).trans (enterCoast_ends _))
      · exact Ends.of_eq rfl

theorem formIdle_ends (s : State) : Ends s s.formIdle := by
  unfold formIdle; split
  · split <;> exact Ends.of_eq rfl
  · exact Ends.of_eq rfl

theorem formAll_ends (s : State) : Ends s s.formAll := by
  unfold formAll
  have h1 := (formKeep_ends s).trans (formHold_ends _)
  have h2 := h1.trans (Ends.of_eq (choosePath_present _))
  have h3 := (h2.trans (Ends.of_eq (t := s.formKeep.formHold.choosePath.formRequest) rfl)).trans
    (formDemand_ends _)
  have h4 := h3.trans (Ends.of_eq
    (t := s.formKeep.formHold.choosePath.formRequest.formDemand.formCap) rfl)
  exact h4.trans (formIdle_ends _)

/-- A follow-up ends no condition but LINK_WATCHDOG, LOST_SYNC and BLOCKAGE, and begins none. -/
theorem settled_ends (s : State) : Ends s s.settled := (formAll_ends s).trans (formAll_ends _)

end Sys2Proof.Machine.State
end

