-- ==== Sys2Proof/Laws/Interlock.lean ====
section
/-! SUPPORT. The bridge outside the path DISCHARGE (02 R19): each operation of the cascade keeps
`DriveSafe`, and from it an event's follow-up forms the whole interlock. -/

namespace Sys2Proof.Machine.State

/-! ### The operations -/

/-- No switch of the bridge works outside the path DISCHARGE, outside AWAKE or after an accepted SHIP. -/
structure DriveSafe (s : State) : Prop where
  path : driving s.drive.motor = true → s.charge.path = .discharge
  still : s.power.state ≠ .awake ∨ s.power.shipPending = true → driving s.drive.motor = false

theorem DriveSafe.of_off {s : State} (h : driving s.drive.motor = false) : DriveSafe s :=
  ⟨fun x => (by rw [h] at x; cases x), fun _ => h⟩

theorem DriveSafe.of_same {s t : State} (h : DriveSafe s) (hd : t.drive.motor = s.drive.motor)
    (hp : t.charge.path = s.charge.path) (hs : t.power.state = s.power.state)
    (hh : t.power.shipPending = s.power.shipPending) : DriveSafe t :=
  ⟨by rw [hd, hp]; exact h.path, by rw [hd, hs, hh]; exact h.still⟩

theorem DriveSafe.of_blocks {s t : State} (h : DriveSafe s) (hd : t.drive = s.drive) (hp : t.charge = s.charge)
    (hs : t.power = s.power) : DriveSafe t :=
  h.of_same (by rw [hd]) (by rw [hp]) (by rw [hs]) (by rw [hs])

theorem endCond_charge (s : State) (k : CauseKind) : (s.endCond k).charge = s.charge := by unfold endCond; split <;> rfl
theorem endCond_power (s : State) (k : CauseKind) : (s.endCond k).power = s.power := by unfold endCond; split <;> rfl
theorem takeUp_power (s : State) (t : TableId) : (s.takeUp t).power = s.power := by unfold takeUp; split <;> rfl

theorem DriveSafe.endCond {s : State} (h : DriveSafe s) (k : CauseKind) : DriveSafe (s.endCond k) :=
  h.of_blocks (endCond_drive s k) (endCond_charge s k) (endCond_power s k)

theorem DriveSafe.takeUp {s : State} (h : DriveSafe s) (t : TableId) : DriveSafe (s.takeUp t) :=
  h.of_blocks (takeUp_drive s t) (takeUp_charge s t) (takeUp_power s t)

theorem DriveSafe.raiseInfo {s : State} (h : DriveSafe s) (k : CauseKind) (d e : Nat) : DriveSafe (s.raiseInfo k d e) :=
  h.of_blocks rfl rfl rfl

theorem DriveSafe.enterCoast (s : State) : DriveSafe s.enterCoast := .of_off (by rw [enterCoast_drive]; rfl)
theorem DriveSafe.restStopped (s : State) : DriveSafe s.restStopped := .of_off (by rw [restStopped_drive]; rfl)

theorem DriveSafe.openPath {s : State} (h : driving s.drive.motor = false) : DriveSafe s.openPath := .of_off h

theorem logMotorStart_charge (s : State) : s.logMotorStart.charge = s.charge := by
  unfold logMotorStart; split
  · rfl
  · split <;> rfl
theorem logMotorStart_power (s : State) : s.logMotorStart.power = s.power := by
  unfold logMotorStart; split
  · rfl
  · split <;> rfl

/-- A start needs what makes the bridge safe. -/
theorem runRequestNow_spec {s : State} (h : s.runRequestNow = true) :
    s.charge.path = .discharge ∧ s.power.state = .awake ∧ s.power.shipPending = false ∧ s.charge.presence ≠ .present := by
  unfold runRequestNow at h; simp at h; simp [h]

theorem DriveSafe.startIfDue {s : State} (h : DriveSafe s) : DriveSafe s.startIfDue := by
  unfold State.startIfDue; split
  · rename_i hc
    have hm := hc.2.2; unfold mayStart at hm; simp at hm
    obtain ⟨a, b, c, _⟩ := runRequestNow_spec hm.1.2
    unfold startSequence
    refine ⟨fun _ => ?_, fun x => ?_⟩
    · rw [logMotorStart_charge]; exact a
    · rw [logMotorStart_power] at x; rcases x with x | x
      · exact absurd b x
      · exact absurd x (by rw [show (({ s with drive := s.drive.toAlign } : State).leaveStopped).power = s.power from rfl, c]; decide)
  · exact h

theorem DriveSafe.endProbe (s : State) (w : ProbeResult) (f : List Bool) : DriveSafe (s.endProbe w f) := by
  unfold State.endProbe; dsimp only
  have h0 := DriveSafe.restStopped s
  generalize s.restStopped = Y at h0
  refine DriveSafe.startIfDue ?_
  exact h0.of_blocks rfl rfl rfl

theorem DriveSafe.abortProbe {s : State} (h : DriveSafe s) (w : ProbeResult) : DriveSafe (s.abortProbe w) := by
  unfold State.abortProbe; split
  · exact .endProbe ..
  · exact h

theorem DriveSafe.endLockout {s : State} (h : DriveSafe s) : DriveSafe s.endLockout := by
  unfold State.endLockout; split
  · exact (DriveSafe.enterCoast s).endCond _
  · exact h

theorem DriveSafe.setTrip {s : State} (h : DriveSafe s) : DriveSafe s.setTrip := by
  by_cases ht : s.cause.trip = true
  · unfold State.setTrip; rw [if_pos ht]; exact h
  · have := (setTrip_spec s (by simpa using ht)).2.1
    refine .of_off ?_
    rcases this with e | e <;> rw [e] <;> rfl

theorem DriveSafe.overcurrentOff {s : State} (h : DriveSafe s) : DriveSafe s.overcurrentOff := by
  unfold State.overcurrentOff cancelRetry
  have : ∀ t : State, DriveSafe t → DriveSafe { t with drive := { t.drive with retry := none } } := fun t x => x.of_same rfl rfl rfl rfl
  apply this; split
  · exact .enterCoast s
  · exact h.abortProbe _

theorem DriveSafe.raise {s : State} (h : DriveSafe s) (k : CauseKind) (d : Nat) : DriveSafe (s.raise k d) := by
  unfold State.raise; split
  · exact h
  · dsimp only
    have h1 : DriveSafe ((s.setCond k true).occur k d 0) := h.of_blocks rfl rfl rfl
    split <;> split
    · exact h1.overcurrentOff.setTrip
    · exact h1.setTrip
    · exact h1.overcurrentOff
    · exact h1

theorem DriveSafe.failAttempt (s : State) : DriveSafe s.failAttempt := by
  unfold State.failAttempt; dsimp only
  have h1 := DriveSafe.enterCoast s
  split
  · unfold enterLockout; exact DriveSafe.raise (.of_off rfl) _ _
  · split
    · exact h1.of_same rfl rfl rfl rfl
    · exact h1.of_same rfl rfl rfl rfl

theorem DriveSafe.enterStopped (s : State) : DriveSafe s.enterStopped := (DriveSafe.restStopped s).startIfDue

/-! ### The follow-up -/

theorem formKeep_charge (s : State) : s.formKeep.charge = s.charge := by
  unfold formKeep; split
  · split <;> rfl
  · split
    · rfl
    · rw [endCond_charge]
theorem formKeep_power (s : State) : s.formKeep.power = s.power := by
  unfold formKeep; split
  · split <;> rfl
  · split
    · rfl
    · rw [endCond_power]

theorem DriveSafe.formHold {s : State} (h : DriveSafe s) : DriveSafe s.formHold := by
  unfold State.formHold; split
  · exact h
  · dsimp only
    have h1 : DriveSafe { s with cause := { s.cause with hold := s.holdNow } } := h.of_blocks rfl rfl rfl
    split
    · exact h1.abortProbe _
    · exact h1

theorem DriveSafe.choosePath {s : State} (h : DriveSafe s) : DriveSafe s.choosePath := by
  have hs : s.choosePath.power.state = s.power.state := Calm.powerState_eq (choosePath_calm s)
  have hh : s.choosePath.power.shipPending = s.power.shipPending := Calm.shipPending_eq (choosePath_calm s)
  have hd := choosePath_drive s
  by_cases hp : s.charge.path = .opened
  · refine .of_off ?_; rw [hd]
    cases hc : driving s.drive.motor
    · rfl
    · have := h.path hc; rw [hp] at this; cases this
  · have : s.choosePath = s := by unfold State.choosePath; rw [if_neg (fun x => hp x.1)]
    rw [this]; exact h

theorem startIfDue_charge (s : State) : s.startIfDue.charge = s.charge := by
  unfold State.startIfDue startSequence; split
  · rw [logMotorStart_charge]; rfl
  · rfl

theorem takeUpDrive_charge (s : State) : s.takeUpDrive.charge = s.charge := by
  unfold takeUpDrive; split
  · exact takeUp_charge s .drive
  · rfl

theorem restStopped_charge (s : State) (h : s.charge.presence ≠ .present) : s.restStopped.charge = s.charge := by
  unfold State.restStopped; dsimp only
  have hc : ((({ s with drive := s.drive.toStopped } : State).endCond .lostSync).takeUpDrive).charge = s.charge := by
    rw [takeUpDrive_charge, endCond_charge]
  rw [if_neg (by rw [hc]; exact h), hc]

theorem fresh_path {X : State} (h1 : DriveSafe X) (a : X.charge.path = .discharge) (e : X.charge.presence ≠ .present) :
    DriveSafe (if X.drive.motor = .probe then X.abortProbe .abortedTrigger else X.startIfDue) ∧
    (if X.drive.motor = .probe then X.abortProbe .abortedTrigger else X.startIfDue).charge.path = .discharge := by
  split
  · refine ⟨h1.abortProbe _, ?_⟩
    rename_i hm; unfold State.abortProbe; rw [if_pos hm]; unfold State.endProbe; rw [startIfDue_charge]
    show (X.restStopped).charge.path = .discharge
    rw [restStopped_charge X e]; exact a
  · exact ⟨h1.startIfDue, by rw [startIfDue_charge]; exact a⟩

/-- After the run demand is formed it stands only on a request's ground. -/
theorem DriveSafe.formDemand {s : State} (h : DriveSafe s) (hr : s.plan.runReq = true → s.runRequestNow = true) :
    DriveSafe s.formDemand ∧ (s.formDemand.drive.demand = true →
      s.formDemand.charge.path = .discharge ∧ s.formDemand.power.state = .awake ∧ s.formDemand.power.shipPending = false) := by
  have hs : s.formDemand.power.state = s.power.state := Calm.powerState_eq (formDemand_calm s)
  have hh : s.formDemand.power.shipPending = s.power.shipPending := Calm.shipPending_eq (formDemand_calm s)
  rw [hs, hh]
  unfold State.formDemand; dsimp only
  split
  · rename_i he; refine ⟨h, fun hd => ?_⟩
    rw [hd] at he; simp at he
    obtain ⟨a, b, c, _⟩ := runRequestNow_spec (hr he.1)
    exact ⟨a, b, c⟩
  · split
    · rename_i hn hd; simp at hd
      obtain ⟨a, b, c, e⟩ := runRequestNow_spec (hr hd.1)
      unfold freshDemand; dsimp only
      have h1 : DriveSafe { s with drive := { s.drive with demand := true, attempts := 0, retry := none, waitStop := false } } :=
        h.of_same rfl rfl rfl rfl
      have h2 := fresh_path h1 a e
      exact ⟨h2.1, fun _ => ⟨h2.2, b, c⟩⟩
    · rename_i hn hd
      unfold withdraw; dsimp only
      split
      · refine ⟨.enterCoast _, fun x => ?_⟩
        rw [enterCoast_drive] at x; cases x
      · exact ⟨h.of_same rfl rfl rfl rfl, fun x => by cases x⟩

theorem DriveSafe.formAll {s : State} (h : DriveSafe s) : s.formAll.Interlocked := by
  unfold State.formAll
  have h1 := h.of_blocks (formKeep_drive s) (formKeep_charge s) (formKeep_power s)
  have h2 := h1.formHold.choosePath
  generalize s.formKeep.formHold.choosePath = Y at h2
  have h3 : DriveSafe Y.formRequest := h2.of_blocks rfl rfl rfl
  have hr : Y.formRequest.plan.runReq = true → Y.formRequest.runRequestNow = true := fun x => x
  obtain ⟨h4, h5⟩ := h3.formDemand hr
  generalize Y.formRequest.formDemand = Z at h4 h5
  have k1 : Z.formCap.formIdle.drive = Z.drive := by rw [formIdle_drive]; rfl
  have k2 : Z.formCap.formIdle.charge.path = Z.charge.path := by unfold formIdle; split; split <;> rfl; rfl
  have k3 : Z.formCap.formIdle.power.state = Z.power.state := by unfold formIdle; split; split <;> rfl; rfl
  have k4 : Z.formCap.formIdle.power.shipPending = Z.power.shipPending := by unfold formIdle; split; split <;> rfl; rfl
  refine ⟨?_, ?_, ?_, ?_⟩
  · rw [k1, k2]; exact h4.path
  · rw [k1, k2, k3, k4]; exact h5
  · rw [k1, k3, k4]; exact h4.still
  · intro hi; rw [k1]
    unfold formIdle at hi; split at hi
    · rename_i hc; unfold idleRuns at hc; simp at hc; exact of_decide_eq_true hc.1.1.1.2
    · exact absurd rfl hi

theorem Interlocked.safe {s : State} (h : s.Interlocked) : DriveSafe s := ⟨h.path, h.still⟩

/-- An event's follow-up brings the interlock about. -/
theorem DriveSafe.settled {s : State} (h : DriveSafe s) : s.settled.Interlocked := h.formAll.safe.formAll

end Sys2Proof.Machine.State
end

