-- ==== Sys2Proof/Laws/Follow.lean ====
section
/-! SUPPORT. What an event's follow-up keeps beside the calm part: an unreported record, the table store with no DRIVE
image pending, and, outside AWAKE, the session log but for the open session's figures. -/

namespace Sys2Proof.Machine.State

/-! ### Unreported records -/

/-- The pending set holds an unreported record of the kind. -/
def Unreported (k : CauseKind) (s : State) : Prop := ∃ r, r ∈ s.cause.records ∧ r.kind = k ∧ r.reported = false

theorem Unreported.of_eq {k : CauseKind} {s t : State} (h : Unreported k s) (e : t.cause.records = s.cause.records) :
    Unreported k t := by unfold Unreported; rw [e]; exact h

theorem occur_unreported (s : State) (k : CauseKind) (d e : Nat) : Unreported k (s.occur k d e) := by
  show ∃ r, r ∈ recordOccurrence s.cause.records k s.clockMs d e ∧ _
  unfold recordOccurrence; split <;> rename_i h
  · obtain ⟨r, hr, hk⟩ := List.any_eq_true.1 h
    exact ⟨_, List.mem_map.2 ⟨r, hr, rfl⟩, by simp [hk]; simpa using hk, by simp [hk]⟩
  · exact ⟨_, List.mem_append_right _ (List.mem_singleton.2 rfl), rfl, rfl⟩

theorem Unreported.occur {k : CauseKind} {s : State} (h : Unreported k s) (j : CauseKind) (d e : Nat) :
    Unreported k (s.occur j d e) := by
  obtain ⟨r, hr, hk, hf⟩ := h
  by_cases hj : j = k
  · subst hj; exact occur_unreported s j d e
  · show ∃ r, r ∈ recordOccurrence s.cause.records j s.clockMs d e ∧ _
    unfold recordOccurrence; split
    · refine ⟨r, List.mem_map.2 ⟨r, hr, ?_⟩, hk, hf⟩
      have : (r.kind == j) = false := by rw [hk]; simpa using fun h => hj h.symm
      rw [this]; rfl
    · exact ⟨r, List.mem_append_left _ hr, hk, hf⟩

theorem Unreported.raiseInfo {k : CauseKind} {s : State} (h : Unreported k s) (j : CauseKind) (d e : Nat) :
    Unreported k (s.raiseInfo j d e) := h.occur j d e

theorem Unreported.endCond {k : CauseKind} {s : State} (h : Unreported k s) (j : CauseKind) :
    Unreported k (s.endCond j) := by
  unfold State.endCond; split
  · obtain ⟨r, hr, hk, hf⟩ := h
    exact ⟨r, List.mem_filter.2 ⟨hr, by rw [hf]; simp⟩, hk, hf⟩
  · exact h

theorem Unreported.writeRecord {k : CauseKind} {s : State} (h : Unreported k s) (r : LogRecord) :
    Unreported k (s.writeRecord r) :=
  (h.of_eq (t := { s with log := (s.writeRecord r).log }) rfl).occur .sessionLogged 0 0

theorem Unreported.closeClean {k : CauseKind} {s : State} (h : Unreported k s) (w : EndReason) :
    Unreported k (s.closeClean w) := by
  unfold State.closeClean; split
  · split
    · exact h.writeRecord _
    · exact h
  · exact h

theorem Unreported.closeChargeLog {k : CauseKind} {s : State} (h : Unreported k s) (w : EndReason) :
    Unreported k (s.closeChargeLog w) := by
  unfold State.closeChargeLog; split
  · split
    · exact h.writeRecord _
    · exact h
  · exact h

theorem Unreported.takeUp {k : CauseKind} {s : State} (h : Unreported k s) (t : TableId) : Unreported k (s.takeUp t) := by
  unfold State.takeUp; split
  · exact Unreported.raiseInfo (h.of_eq (by rfl)) _ _ _
  · exact h

theorem Unreported.takeUpDrive {k : CauseKind} {s : State} (h : Unreported k s) : Unreported k s.takeUpDrive := by
  unfold State.takeUpDrive; split
  · exact (h.takeUp .drive).of_eq rfl
  · exact h

theorem setBand_records (s : State) (b : Nat) : (s.setBand b).cause.records = s.cause.records := by
  unfold setBand; split <;> rfl

theorem Unreported.enterCoast {k : CauseKind} {s : State} (h : Unreported k s) : Unreported k s.enterCoast := by
  have h0 : Unreported k { s with drive := s.drive.toCoast } := h.of_eq rfl
  unfold State.enterCoast; dsimp only; split
  · unfold planRunExit
    exact ((h0.of_eq (setBand_records _ 0)).of_eq (by rfl) |>.endCond .blockage).takeUpDrive
  · exact h0.takeUpDrive

theorem Unreported.openFromDischarge {k : CauseKind} {s : State} (h : Unreported k s) :
    Unreported k s.openFromDischarge := by
  unfold State.openFromDischarge; split
  · exact h.of_eq rfl
  · exact h

theorem Unreported.openFromCharge {k : CauseKind} {s : State} (h : Unreported k s) (w : EndReason) :
    Unreported k (s.openFromCharge w) := by
  unfold State.openFromCharge; split
  · dsimp only
    have h0 : Unreported k { s.openPath with charge := { s.openPath.charge with
        demand := 0, bleed := List.replicate 7 false } } := h.of_eq rfl
    have h1 := h0.closeChargeLog w
    generalize State.closeChargeLog _ w = Y at h1
    exact Unreported.takeUp (s := { Y with charge := { Y.charge with session := none, cap := 0 } }) (h1.of_eq rfl) _
  · exact h

theorem Unreported.restStopped {k : CauseKind} {s : State} (h : Unreported k s) : Unreported k s.restStopped := by
  have h0 : Unreported k { s with drive := s.drive.toStopped } := h.of_eq rfl
  unfold State.restStopped; dsimp only; split
  · exact (h0.endCond _).takeUpDrive.openFromDischarge
  · exact (h0.endCond _).takeUpDrive

theorem startIfDue_records (s : State) : s.startIfDue.cause = s.cause := by
  unfold startIfDue startSequence; split
  · unfold logMotorStart; split
    · rfl
    · split <;> rfl
  · rfl

theorem Unreported.startIfDue {k : CauseKind} {s : State} (h : Unreported k s) : Unreported k s.startIfDue :=
  h.of_eq (by rw [startIfDue_records])

theorem endProbe_records (s : State) (w : ProbeResult) (f : List Bool) :
    (s.endProbe w f).cause = (s.restStopped.raiseInfo .probeDone (probeCode w) (bitmap f)).cause := by
  unfold endProbe; rw [startIfDue_records]; rfl

theorem Unreported.endProbe {k : CauseKind} {s : State} (h : Unreported k s) (w : ProbeResult) (f : List Bool) :
    Unreported k (s.endProbe w f) :=
  (h.restStopped.raiseInfo .probeDone (probeCode w) (bitmap f)).of_eq (by rw [endProbe_records])

theorem endProbe_done (s : State) (w : ProbeResult) (f : List Bool) : Unreported .probeDone (s.endProbe w f) :=
  (occur_unreported s.restStopped .probeDone (probeCode w) (bitmap f)).of_eq (by rw [endProbe_records]; rfl)

theorem Unreported.abortProbe {k : CauseKind} {s : State} (h : Unreported k s) (w : ProbeResult) :
    Unreported k (s.abortProbe w) := by
  unfold State.abortProbe; split
  · exact h.endProbe _ _
  · exact h

theorem Unreported.endLockout {k : CauseKind} {s : State} (h : Unreported k s) : Unreported k s.endLockout := by
  unfold State.endLockout; split
  · exact h.enterCoast.endCond _
  · exact h

theorem Unreported.setTrip {k : CauseKind} {s : State} (h : Unreported k s) : Unreported k s.setTrip := by
  unfold State.setTrip; split
  · exact h
  · dsimp only
    refine Unreported.openFromCharge (Unreported.openFromDischarge (Unreported.abortProbe ?_ _)) _
    unfold tripDrive cancelRetry
    have h0 : Unreported k { s with cause := { s.cause with trip := true } } := h.of_eq rfl
    refine Unreported.of_eq (s := if coasting _ then _ else _) ?_ rfl
    split
    · exact h0.enterCoast
    · exact h0.endLockout

theorem Unreported.raise {k : CauseKind} {s : State} (h : Unreported k s) (j : CauseKind) (d : Nat) :
    Unreported k (s.raise j d) := by
  unfold State.raise; split
  · exact h
  · dsimp only
    have h1 : Unreported k ((s.setCond j true).occur j d 0) := Unreported.occur (h.of_eq rfl) _ _ _
    have h2 : Unreported k (if j = .overcurrent then ((s.setCond j true).occur j d 0).overcurrentOff
        else (s.setCond j true).occur j d 0) := by
      split
      · unfold overcurrentOff cancelRetry
        refine Unreported.of_eq (s := if coasting _ then _ else _) ?_ rfl
        split
        · exact h1.enterCoast
        · exact h1.abortProbe _
      · exact h1
    split
    · exact h2.setTrip
    · exact h2

theorem Unreported.fullAnchor {k : CauseKind} {s : State} (h : Unreported k s) : Unreported k s.fullAnchor := by
  have e : s.fullAnchor.cause.records = s.cause.records := by
    show s.learnCapacity.cause.records = _
    unfold learnCapacity; split <;> rfl
  exact h.of_eq e

theorem Unreported.enterPhase {k : CauseKind} {s : State} (h : Unreported k s) (p : Nat) : Unreported k (s.enterPhase p) := by
  unfold State.enterPhase; dsimp only
  generalize hX : State.formCap _ = X
  have h0 : Unreported k X := by rw [← hX]; exact h.of_eq rfl
  split
  · exact (h0.raiseInfo .chargeDone 0 0).fullAnchor
  · exact h0

theorem Unreported.choosePath {k : CauseKind} {s : State} (h : Unreported k s) : Unreported k s.choosePath := by
  unfold State.choosePath; split
  · split
    · exact h.of_eq rfl
    · split
      · unfold openCharge; refine Unreported.enterPhase ?_ _; exact h.of_eq rfl
      · exact h
    · exact h
  · exact h

theorem Unreported.formAll {k : CauseKind} {s : State} (h : Unreported k s) : Unreported k s.formAll := by
  have h1 : Unreported k s.formKeep := by
    unfold formKeep; split
    · split
      · exact h.of_eq rfl
      · exact h
    · split
      · exact h
      · refine Unreported.endCond ?_ _; exact h.of_eq rfl
  have h2 : Unreported k s.formKeep.formHold := by
    unfold formHold; split
    · exact h1
    · dsimp only; split
      · refine Unreported.abortProbe ?_ _; exact h1.of_eq rfl
      · exact h1.of_eq rfl
  have h3 : Unreported k s.formKeep.formHold.choosePath.formRequest := h2.choosePath.of_eq rfl
  have h4 : ∀ t : State, Unreported k t → Unreported k t.formDemand := by
    intro t ht; unfold formDemand; dsimp only; split
    · exact ht
    · split
      · unfold freshDemand; dsimp only; split
        · refine Unreported.abortProbe ?_ _; exact ht.of_eq rfl
        · refine Unreported.startIfDue ?_; exact ht.of_eq rfl
      · unfold withdraw; dsimp only; split
        · refine Unreported.enterCoast ?_; exact ht.of_eq rfl
        · exact ht.of_eq rfl
  have h5 := h4 _ h3
  unfold State.formAll formIdle
  split
  · split
    · exact h5.of_eq rfl
    · exact h5.of_eq rfl
  · exact h5.of_eq rfl

/-- A follow-up keeps what has not been reported. -/
theorem Unreported.settled {k : CauseKind} {s : State} (h : Unreported k s) : Unreported k s.settled := h.formAll.formAll

/-! ### The table store -/

/-- With no DRIVE image pending the tables are as before. -/
def SameTables (s t : State) : Prop := s.isPending .drive = false → t.tables = s.tables

theorem SameTables.of_eq {s t : State} (h : t.tables = s.tables) : SameTables s t := fun _ => h

theorem SameTables.trans {s t u : State} (h : SameTables s t) (h' : SameTables t u) : SameTables s u := fun hn => by
  have e := h hn
  have hn' : t.isPending .drive = false := by unfold isPending at hn ⊢; rw [e]; exact hn
  exact (h' hn').trans e

theorem endCond_sameTables (s : State) (k : CauseKind) : SameTables s (s.endCond k) := by
  unfold endCond; split <;> exact .of_eq rfl

theorem takeUpDrive_sameTables (s : State) : SameTables s s.takeUpDrive := fun h => by
  unfold takeUpDrive; rw [h]; rfl

theorem startIfDue_tables (s : State) : s.startIfDue.tables = s.tables := by
  unfold startIfDue startSequence; split
  · unfold logMotorStart; split
    · rfl
    · split <;> rfl
  · rfl

theorem enterCoast_sameTables (s : State) : SameTables s s.enterCoast := by
  have h0 : SameTables s { s with drive := s.drive.toCoast } := .of_eq rfl
  unfold enterCoast; dsimp only; split
  · unfold planRunExit
    refine (h0.trans ?_).trans (takeUpDrive_sameTables _)
    generalize State.mk _ _ _ _ _ _ _ _ _ _ _ _ _ _ _ = Y
    refine SameTables.trans (.of_eq ?_) (endCond_sameTables _ .blockage)
    show (Y.setBand 0).tables = _
    unfold setBand; split <;> rfl
  · exact h0.trans (takeUpDrive_sameTables _)

theorem openFromDischarge_tables (s : State) : s.openFromDischarge.tables = s.tables := by
  unfold openFromDischarge; split <;> rfl

theorem abortProbe_sameTables (s : State) (w : ProbeResult) : SameTables s (s.abortProbe w) := by
  unfold abortProbe; split
  · unfold endProbe
    have h1 : SameTables s s.restStopped := by
      have h0 : SameTables s { s with drive := s.drive.toStopped } := .of_eq rfl
      unfold restStopped; dsimp only
      have h2 := (h0.trans (endCond_sameTables _ .lostSync)).trans (takeUpDrive_sameTables _)
      split
      · exact h2.trans (.of_eq (openFromDischarge_tables _))
      · exact h2
    exact h1.trans (.of_eq (startIfDue_tables _))
  · exact .of_eq rfl

theorem enterPhase_tables (s : State) (p : Nat) : (s.enterPhase p).tables = s.tables := by
  unfold enterPhase; dsimp only; split
  · generalize hX : State.raiseInfo _ .chargeDone 0 0 = X
    have h0 : X.tables = s.tables := by rw [← hX]; rfl
    rw [← h0]; show X.learnCapacity.tables = _
    unfold learnCapacity; split <;> rfl
  · rfl

theorem formAll_sameTables (s : State) : SameTables s s.formAll := by
  have h1 : SameTables s s.formKeep := by
    unfold formKeep; split
    · split <;> exact .of_eq rfl
    · split
      · exact .of_eq rfl
      · refine SameTables.trans ?_ (endCond_sameTables _ _); exact .of_eq rfl
  have h2 : SameTables s.formKeep s.formKeep.formHold := by
    unfold formHold; split
    · exact .of_eq rfl
    · dsimp only; split
      · refine SameTables.trans ?_ (abortProbe_sameTables _ _); exact .of_eq rfl
      · exact .of_eq rfl
  have h3 : ∀ t : State, t.choosePath.formRequest.tables = t.tables := fun t => by
    show t.choosePath.tables = _
    unfold choosePath; split
    · split
      · rfl
      · split
        · unfold openCharge; rw [enterPhase_tables]
        · rfl
      · rfl
    · rfl
  have h4 : ∀ t : State, SameTables t t.formDemand := by
    intro t; unfold formDemand; dsimp only; split
    · exact .of_eq rfl
    · split
      · unfold freshDemand; dsimp only; split
        · refine SameTables.trans ?_ (abortProbe_sameTables _ _); exact .of_eq rfl
        · exact .of_eq (startIfDue_tables _)
      · unfold withdraw; dsimp only; split
        · refine SameTables.trans ?_ (enterCoast_sameTables _); exact .of_eq rfl
        · exact .of_eq rfl
  have h5 : ∀ t : State, t.formCap.formIdle.tables = t.tables := fun t => by
    unfold formIdle; split
    · split <;> rfl
    · rfl
  exact (((h1.trans h2).trans (.of_eq (h3 _))).trans (h4 _)).trans (.of_eq (h5 _))

/-- A follow-up changes no table, but that it takes up a DRIVE image that is pending. -/
theorem settled_tables (s : State) (h : s.isPending .drive = false) : s.settled.tables = s.tables :=
  (formAll_sameTables s).trans (formAll_sameTables _) h

/-! ### The open session outside AWAKE -/

/-- The session log but for the open session's figures: its kind, the ring and N. -/
def logView (s : State) : Option SessionKind × List LogRecord × Nat :=
  (s.log.session.map (·.kind), s.log.ring, s.log.nextSeq)

/-- No motor start and no charge session come up outside AWAKE: the open session stays of its kind, and no record is
written. -/
def SameSession (s t : State) : Prop :=
  s.power.state ≠ .awake → t.logView = s.logView ∧ t.power.state = s.power.state

theorem SameSession.of_eq {s t : State} (h : t.log = s.log) (hp : t.power.state = s.power.state) :
    SameSession s t := fun _ => ⟨by unfold logView; rw [h], hp⟩

theorem SameSession.trans {s t u : State} (h : SameSession s t) (h' : SameSession t u) : SameSession s u := fun hn => by
  obtain ⟨a, b⟩ := h hn
  obtain ⟨c, d⟩ := h' (by rw [b]; exact hn)
  exact ⟨c.trans a, d.trans b⟩

theorem endCond_session (s : State) (k : CauseKind) : SameSession s (s.endCond k) := by
  unfold endCond; split <;> exact .of_eq rfl rfl

theorem raiseInfo_session (s : State) (k : CauseKind) (d e : Nat) : SameSession s (s.raiseInfo k d e) := fun _ =>
  ⟨congrArg (·, s.log.ring, s.log.nextSeq) (by show (s.log.session.map _).map _ = _; rw [Option.map_map]; rfl), rfl⟩

theorem takeUpDrive_session (s : State) : SameSession s s.takeUpDrive := by
  unfold takeUpDrive; split
  · have h : SameSession s (s.takeUp .drive) := by
      unfold takeUp; split
      · refine SameSession.trans ?_ (raiseInfo_session _ _ _ _); exact .of_eq rfl rfl
      · exact .of_eq rfl rfl
    exact h.trans (.of_eq rfl rfl)
  · exact .of_eq rfl rfl

theorem startIfDue_asleep (s : State) (h : s.power.state ≠ .awake) : s.startIfDue = s :=
  startIfDue_of_not s (by unfold mayStart runRequestNow; simp [h])

theorem enterCoast_session (s : State) : SameSession s s.enterCoast := by
  have h0 : SameSession s { s with drive := s.drive.toCoast } := .of_eq rfl rfl
  unfold enterCoast; dsimp only; split
  · unfold planRunExit
    refine (h0.trans ?_).trans (takeUpDrive_session _)
    generalize State.mk _ _ _ _ _ _ _ _ _ _ _ _ _ _ _ = Y
    refine SameSession.trans (.of_eq ?_ ?_) (endCond_session _ .blockage)
    · show (Y.setBand 0).log = _
      unfold setBand; split <;> rfl
    · show (Y.setBand 0).power.state = _
      unfold setBand; split <;> rfl
  · exact h0.trans (takeUpDrive_session _)

theorem abortProbe_session (s : State) (w : ProbeResult) : SameSession s (s.abortProbe w) := by
  unfold abortProbe; split
  · unfold endProbe
    have h1 : SameSession s s.restStopped := by
      have h0 : SameSession s { s with drive := s.drive.toStopped } := .of_eq rfl rfl
      unfold restStopped; dsimp only
      have h2 := (h0.trans (endCond_session _ .lostSync)).trans (takeUpDrive_session _)
      split
      · refine h2.trans (.of_eq ?_ ?_) <;> (unfold openFromDischarge; split <;> rfl)
      · exact h2
    dsimp only
    have h3 := (h1.trans (SameSession.of_eq (t := { s.restStopped with pack := { s.restStopped.pack with
      probe := .idle, probeTime := 0, before := none, inside := none, figures := [],
      lastProbe := some { result := w, flagged := List.replicate 7 false }, skipEst := true } }) rfl rfl)).trans
      (raiseInfo_session _ .probeDone (probeCode w) (bitmap (List.replicate 7 false)))
    intro hn
    obtain ⟨a, b⟩ := h3 hn
    rw [startIfDue_asleep _ (by rw [b]; exact hn)]
    exact ⟨a, b⟩
  · exact .of_eq rfl rfl

theorem formAll_session (s : State) : SameSession s s.formAll := by
  have h1 : SameSession s s.formKeep := by
    unfold formKeep; split
    · split <;> exact .of_eq rfl rfl
    · split
      · exact .of_eq rfl rfl
      · refine SameSession.trans ?_ (endCond_session _ _); exact .of_eq rfl rfl
  have h2 : SameSession s.formKeep s.formKeep.formHold := by
    unfold formHold; split
    · exact .of_eq rfl rfl
    · dsimp only; split
      · refine SameSession.trans ?_ (abortProbe_session _ _); exact .of_eq rfl rfl
      · exact .of_eq rfl rfl
  have h3 : ∀ t : State, SameSession t t.choosePath.formRequest := fun t hn => by
    have : t.choosePath = t := by unfold choosePath; rw [if_neg (fun x => hn x.2.2.1)]
    rw [this]; exact ⟨rfl, rfl⟩
  have h4 : ∀ t : State, SameSession t t.formDemand := by
    intro t; unfold formDemand; dsimp only; split
    · exact .of_eq rfl rfl
    · split
      · unfold freshDemand; dsimp only; split
        · refine SameSession.trans ?_ (abortProbe_session _ _); exact .of_eq rfl rfl
        · generalize hX : State.mk _ _ _ _ _ _ _ _ _ _ _ _ _ _ _ = X
          have e : X.log = t.log ∧ X.power = t.power := by rw [← hX]; exact ⟨rfl, rfl⟩
          intro hn
          rw [startIfDue_asleep X (by rw [e.2]; exact hn)]; exact SameSession.of_eq e.1 (by rw [e.2]) hn
      · unfold withdraw; dsimp only; split
        · refine SameSession.trans ?_ (enterCoast_session _); exact .of_eq rfl rfl
        · exact .of_eq rfl rfl
  have h5 : ∀ t : State, SameSession t t.formCap.formIdle := fun t => by
    unfold formIdle; split
    · split <;> exact .of_eq rfl rfl
    · exact .of_eq rfl rfl
  exact (((h1.trans h2).trans (h3 _)).trans (h4 _)).trans (h5 _)

/-- Outside AWAKE a follow-up opens and closes no session and writes no record. -/
theorem settled_session (s : State) (h : s.power.state ≠ .awake) : s.settled.logView = s.logView := by
  unfold settled
  have b := formAll_session s.formAll
  have a := formAll_session s
  generalize s.formAll.formAll = Z at b
  generalize s.formAll = Y at a b
  obtain ⟨a1, a2⟩ := a h
  exact (b (by rw [a2]; exact h)).1.trans a1

end Sys2Proof.Machine.State
end

