-- ==== Sys2Proof/Laws/Samples.lean ====
section
/-! SUPPORT. What one sample and the start of a scan do to the acquisition unit, and what they leave
alone. -/

namespace Sys2Proof.Machine.State

/-! ### One sample -/

/-- calm with the acquisition unit and free counter fixed. -/
def quiet (s : State) : Calm := { s.calm with acq := Acq.reset, freeCtr := 0 }

theorem quiet_of_calm {s t : State} (h : t.calm = s.calm) : t.quiet = s.quiet := by unfold quiet; rw [h]

/-- The acquisition unit but for the side counts and conditions. -/
def samples (a : Acq) : Acq := { a with lowCount := [], highCount := [], lowOn := [], highOn := [] }

theorem setSide_samples (s : State) (ch : Nat) (h : Bool) (n : Nat) (on : Bool) :
    samples (s.setSide ch h n on).acq = samples s.acq ∧ (s.setSide ch h n on).quiet = s.quiet := by
  unfold setSide; split <;> exact ⟨rfl, rfl⟩

theorem raise_acq (s : State) (k : CauseKind) (d : Nat) : (s.raise k d).acq = s.acq := Calm.acq_eq (raise_calm s k d)
theorem endCond_acq (s : State) (k : CauseKind) : (s.endCond k).acq = s.acq := Calm.acq_eq (endCond_calm s k)
theorem settled_acq (s : State) : s.settled.acq = s.acq := Calm.acq_eq (settled_calm s)

theorem endUnheld_calm (s : State) (k : CauseKind) : (s.endUnheld k).calm = s.calm := by
  unfold endUnheld; generalize s.sideHolds k = b; cases b
  · exact endCond_calm s k
  · exact rfl

theorem checkSide_samples (s : State) (ch : Nat) (h : Bool) (v : Int) :
    samples (s.checkSide ch h v).acq = samples s.acq ∧ (s.checkSide ch h v).quiet = s.quiet := by
  unfold checkSide; split
  · exact ⟨rfl, rfl⟩
  · split <;> dsimp only <;> split
    · exact ⟨by rw [raise_acq]; exact (setSide_samples ..).1, by rw [quiet_of_calm (raise_calm ..)]; exact (setSide_samples ..).2⟩
    · exact setSide_samples ..
    · exact ⟨by rw [Calm.acq_eq (endUnheld_calm ..)]; exact (setSide_samples ..).1, by rw [quiet_of_calm (endUnheld_calm ..)]; exact (setSide_samples ..).2⟩
    · exact setSide_samples ..

theorem checkSides_samples (s : State) (ch : Nat) (v : Int) :
    samples (s.checkSides ch v).acq = samples s.acq ∧ (s.checkSides ch v).quiet = s.quiet := by
  unfold checkSides; split
  · split
    · exact ⟨by rw [(checkSide_samples ..).1, (checkSide_samples ..).1]; rfl, by rw [(checkSide_samples ..).2, (checkSide_samples ..).2]; rfl⟩
    · exact ⟨by rw [(checkSide_samples ..).1, (checkSide_samples ..).1]; rfl, by rw [(checkSide_samples ..).2, (checkSide_samples ..).2]; rfl⟩
  · exact ⟨by rw [(checkSide_samples ..).1, (checkSide_samples ..).1], by rw [(checkSide_samples ..).2, (checkSide_samples ..).2]⟩

theorem storeSample_acq (s : State) (ch : Nat) (v : Int) (b : Bool) :
    (s.storeSample ch v b).acq = { s.acq with latest := s.acq.latest.set ch v, sat := s.acq.sat.set ch b } ∧ (s.storeSample ch v b).quiet = s.quiet := by
  unfold storeSample; dsimp only; split
  · exact ⟨rfl, rfl⟩
  · split
    · exact ⟨by rw [raise_acq], by rw [quiet_of_calm (raise_calm ..)]; rfl⟩
    · exact ⟨by rw [endCond_acq], by rw [quiet_of_calm (endCond_calm ..)]; rfl⟩

/-- One sample's effect on the acquisition unit. -/
theorem takeSample_acq (s : State) (ch raw : Nat) :
    samples (s.takeSample ch raw).acq =
      samples { s.acq with latest := s.acq.latest.set ch (convert (s.channelEntry ch) raw), sat := s.acq.sat.set ch (saturated raw) } ∧
    (s.takeSample ch raw).quiet = s.quiet := by
  unfold takeSample; dsimp only
  rw [(checkSides_samples ..).1, (checkSides_samples ..).2, (storeSample_acq ..).1, (storeSample_acq ..).2]
  exact ⟨rfl, rfl⟩

theorem samples_latest {a b : Acq} (h : samples a = samples b) : a.latest = b.latest := by
  have := congrArg Acq.latest h; exact this
theorem samples_sat {a b : Acq} (h : samples a = samples b) : a.sat = b.sat := by
  have := congrArg Acq.sat h; exact this

theorem takeSample_latest (s : State) (ch raw : Nat) :
    (s.takeSample ch raw).acq.latest = s.acq.latest.set ch (convert (s.channelEntry ch) raw) :=
  samples_latest (takeSample_acq s ch raw).1

theorem quiet_channels {s t : State} (h : t.quiet = s.quiet) : t.tables.channels = s.tables.channels := congrArg (·.tables.channels) h
theorem quiet_entry {s t : State} (h : t.quiet = s.quiet) (ch : Nat) : t.channelEntry ch = s.channelEntry ch := by
  unfold channelEntry; rw [quiet_channels h]

/-! ### The start of a scan -/

/-- quiet with the tables fixed. -/
def quieter (s : State) : Calm := { s.quiet with tables := State.reset.tables }

theorem quieter_of {s t : State} (h : t.quiet = s.quiet) : t.quieter = s.quieter := by unfold quieter; rw [h]

/-- Acq but for sides and sat. -/
def bare (a : Acq) : Acq := { a with lowCount := [], highCount := [], lowOn := [], highOn := [], sat := [] }

theorem takeUp_acq (s : State) (t : TableId) : (s.takeUp t).acq = s.acq := by unfold takeUp; split <;> rfl
theorem takeUp_quieter (s : State) (t : TableId) : (s.takeUp t).quieter = s.quieter := by unfold takeUp; split <;> rfl

theorem endUnheld_calm' (s : State) (k : CauseKind) : (s.endUnheld k).calm = s.calm := endUnheld_calm s k
theorem endUnheld_tables (s : State) (k : CauseKind) : (s.endUnheld k).tables = s.tables := by
  unfold endUnheld; generalize s.sideHolds k = b; cases b
  · unfold endCond; rw [if_neg (by simp)]; split <;> rfl
  · rfl

theorem fold_unheld (ks : List CauseKind) (s : State) :
    (ks.foldl State.endUnheld s).calm = s.calm ∧ (ks.foldl State.endUnheld s).tables = s.tables := by
  induction ks generalizing s with
  | nil => exact ⟨rfl, rfl⟩
  | cons k ks ih => rw [List.foldl_cons]; rw [(ih _).1, (ih _).2, endUnheld_calm, endUnheld_tables]; exact ⟨rfl, rfl⟩

theorem fold_unheld_acq (ks : List CauseKind) (s : State) : (ks.foldl State.endUnheld s).acq = s.acq := Calm.acq_eq (fold_unheld ks s).1

theorem endCond_tables (s : State) (k : CauseKind) : (s.endCond k).tables = s.tables := by unfold endCond; split <;> rfl

theorem takeUp_tables (s : State) (t : TableId) :
    (s.takeUp t).tables = s.tables.put t { s.tables.get t with active := (s.tables.get t).waiting.getD (s.tables.get t).active, waiting := none } := by
  unfold takeUp; split
  · rename_i img h; rw [h]; rfl
  · rename_i h; rw [h]
    have e : ({ s.tables.get t with active := (none : Option Image).getD (s.tables.get t).active, waiting := none } : TableSlot) = s.tables.get t := by
      revert h; generalize s.tables.get t = x; intro h; cases x; simp_all
    rw [e]; cases t <;> rfl

theorem takeUpChannels_spec (s : State) :
    bare s.takeUpChannels.acq = bare s.acq ∧ s.takeUpChannels.quieter = s.quieter ∧ s.takeUpChannels.tables.channels.waiting = none ∧
    s.takeUpChannels.tables.scan = s.tables.scan := by
  unfold takeUpChannels; split
  · dsimp only
    rw [fold_unheld_acq, (fold_unheld _ _).2, quieter_of (quiet_of_calm (fold_unheld _ _).1)]
    dsimp only; rw [takeUp_acq, takeUp_tables]
    refine ⟨rfl, ?_, rfl, rfl⟩
    exact takeUp_quieter s .channels
  · rename_i h; refine ⟨rfl, rfl, ?_, rfl⟩
    unfold isPending isHeld at h; revert h; cases h2 : (s.tables.get .channels).waiting
    · intro _; exact h2
    · simp

theorem takeUpScan_spec (s : State) :
    bare s.takeUpScan.acq = bare s.acq ∧ s.takeUpScan.quieter = s.quieter ∧ s.takeUpScan.tables.scan.waiting = none ∧
    s.takeUpScan.tables.channels = s.tables.channels := by
  unfold takeUpScan; split
  · dsimp only
    generalize hX : channelKinds.foldl State.endUnheld _ = X
    have h1 : bare X.acq = bare s.acq ∧ X.quieter = s.quieter ∧ X.tables.scan.waiting = none ∧ X.tables.channels = s.tables.channels := by
      rw [← hX, fold_unheld_acq, (fold_unheld _ _).2, quieter_of (quiet_of_calm (fold_unheld _ _).1)]
      dsimp only; rw [takeUp_acq, takeUp_tables]
      exact ⟨rfl, takeUp_quieter s .scan, rfl, rfl⟩
    clear hX; split
    · exact h1
    · rw [endCond_acq, endCond_tables, quieter_of (quiet_of_calm (endCond_calm ..))]; exact h1
  · rename_i h; refine ⟨rfl, rfl, ?_, rfl⟩
    unfold isPending isHeld at h; revert h; cases h2 : (s.tables.get .scan).waiting
    · intro _; exact h2
    · simp

theorem takeUpScanTables_spec (s : State) :
    bare s.takeUpScanTables.acq = bare s.acq ∧ s.takeUpScanTables.quieter = s.quieter ∧
    s.takeUpScanTables.tables.scan.waiting = none ∧ s.takeUpScanTables.tables.channels.waiting = none := by
  unfold takeUpScanTables; split
  · split
    · obtain ⟨a, b, c, d⟩ := takeUpScan_spec s.freeUsed
      obtain ⟨a', b', c', d'⟩ := takeUpChannels_spec s.freeUsed.takeUpScan
      exact ⟨a'.trans a, b'.trans b, by rw [d', c], c'⟩
    · obtain ⟨a, b, c, d⟩ := takeUpChannels_spec s.freeUsed
      obtain ⟨a', b', c', d'⟩ := takeUpScan_spec s.freeUsed.takeUpChannels
      exact ⟨a'.trans a, b'.trans b, c', by rw [d', c]⟩
  · obtain ⟨a, b, c, d⟩ := takeUpChannels_spec s
    obtain ⟨a', b', c', d'⟩ := takeUpScan_spec s.takeUpChannels
    exact ⟨a'.trans a, b'.trans b, c', by rw [d', c]⟩

theorem startScan_spec (s : State) :
    s.startScan.quieter = s.quieter ∧ s.startScan.tables.scan.waiting = none ∧ s.startScan.tables.channels.waiting = none ∧
    s.startScan.acq.latest = s.acq.latest ∧ s.startScan.acq.lastSet = s.acq.lastSet ∧ s.startScan.acq.lastGood = s.acq.lastGood ∧
    s.startScan.acq.sleepTimer = s.acq.sleepTimer := by
  obtain ⟨a, b, c, d⟩ := takeUpScanTables_spec s
  have h1 := congrArg Acq.latest a
  have h2 := congrArg Acq.lastSet a
  have h3 := congrArg Acq.lastGood a
  have h4 := congrArg Acq.sleepTimer a
  exact ⟨b, c, d, h1, h2, h3, h4⟩

end Sys2Proof.Machine.State
end

