-- ==== Sys2Proof/Laws/Completion.lean ====
section
/-! SUPPORT. What the consumers of a scan completion (01 R16) leave alone, one lemma for each, with the induction over
their order, and what the start of a scan keeps. -/

namespace Sys2Proof.Machine

/-- A table whose waiting image, if any, has been taken up. -/
def TableSlot.taken (x : TableSlot) : TableSlot := { x with active := x.waiting.getD x.active, waiting := none }

namespace State

/-! ### What is left alone -/

/-- The part of a state that the consumers of a scan leave alone where none of them wakes the part or ends its run. -/
structure Steady where
  acq : Acq
  modem : Modem
  pending : List Instr
  level : Nat
  opt : Int × Nat
  chSlot : Option Request
  state : PowerState
  held : Bool
  mode : Mode
  trigger : Bool
  channels : TableSlot
  scan : TableSlot
  deriving DecidableEq

def steady (s : State) : Steady where
  acq := s.acq
  modem := s.modem
  pending := s.pending
  level := s.dirt.level
  opt := (s.dirt.optSum, s.dirt.optCount)
  chSlot := s.frame.chSlot
  state := s.power.state
  held := s.power.held
  mode := s.plan.mode
  trigger := s.plan.trigger
  channels := s.tables.channels
  scan := s.tables.scan

theorem steady_of_calm {s t : State} (h : t.calm = s.calm) : t.steady = s.steady := by
  have h1 : t.dirt.optSum = s.dirt.optSum := congrArg (·.dirt.optSum) h
  have h2 : t.dirt.optCount = s.dirt.optCount := congrArg (·.dirt.optCount) h
  unfold steady
  rw [Calm.acq_eq h, Calm.modem_eq h, Calm.pending_eq h, Calm.level_eq h, Calm.chSlot_eq h, Calm.powerState_eq h,
    Calm.held_eq h, Calm.mode_eq h, Calm.trigger_eq h, Calm.channels_eq h, Calm.scan_eq h, h1, h2]

/-- What the pack monitor keeps of a completion, and the charge unit and the planner leave to it. -/
structure PackView where
  v : List Nat
  prev : Option ScanPoint
  shipCount : Nat
  table : TableSlot
  deriving DecidableEq

def packView (s : State) : PackView where
  v := s.pack.v
  prev := s.pack.prev
  shipCount := s.pack.shipCount
  table := s.tables.pack

theorem packView_of_calm {s t : State} (h : t.calm = s.calm) : t.packView = s.packView := by
  have h1 : t.pack.prev = s.pack.prev := congrArg (·.pack.prev) h
  have h2 : t.pack.shipCount = s.pack.shipCount := congrArg (·.pack.shipCount) h
  unfold packView; rw [Calm.v_eq h, Calm.packTable_eq h, h1, h2]

/-- What decides the onset of dock presence. -/
def presenceView (s : State) : Presence × Nat := (s.charge.presence, s.charge.highTime)

theorem presenceView_of_calm {s t : State} (h : t.calm = s.calm) : t.presenceView = s.presenceView := by
  have h1 : t.charge.highTime = s.charge.highTime := congrArg (·.charge.highTime) h
  unfold presenceView; rw [Calm.presence_eq h, h1]

/-! ### The pack monitor's part -/

/-- The steady part and what decides on presence are as before. -/
def KeepsPresence (s t : State) : Prop := t.steady = s.steady ∧ t.presenceView = s.presenceView

theorem KeepsPresence.refl (s : State) : KeepsPresence s s := ⟨rfl, rfl⟩

theorem KeepsPresence.of {s t : State} (h : t.calm = s.calm) : KeepsPresence s t :=
    ⟨steady_of_calm h, presenceView_of_calm h⟩

theorem KeepsPresence.trans {s t u : State} (a : KeepsPresence s t) (b : KeepsPresence t u) : KeepsPresence s u :=
    ⟨b.1.trans a.1, b.2.trans a.2⟩

/-- Taking up a PACK image changes no register of the pack monitor. -/
theorem takeUpPack_spec (s : State) : KeepsPresence s (s.takeUp .pack) ∧ (s.takeUp .pack).pack = s.pack ∧
    (s.takeUp .pack).tables.pack = s.tables.pack.taken := by
  refine ⟨?_, ?_, by rw [takeUp_tables]; rfl⟩
  · unfold takeUp; split <;> exact ⟨rfl, rfl⟩
  · unfold takeUp; split <;> rfl

theorem fitPack_spec (s : State) : KeepsPresence s s.fitPack ∧ s.fitPack.tables = s.tables ∧
    s.fitPack.pack.shipCount = s.pack.shipCount := by
  unfold fitPack; split <;> exact ⟨⟨rfl, rfl⟩, rfl, rfl⟩

theorem packTable_spec (s : State) : KeepsPresence s s.packTable ∧ s.packTable.tables.pack = s.tables.pack.taken ∧
    s.packTable.pack.shipCount = s.pack.shipCount := by
  have h := takeUpPack_spec s
  unfold packTable; split
  · have f := fitPack_spec (s.takeUp .pack)
    exact ⟨h.1.trans f.1, by rw [f.2.1]; exact h.2.2, by rw [f.2.2, h.2.1]⟩
  · rename_i hp
    have e : s.tables.pack.waiting = none := by
      unfold isPending isHeld at hp; revert hp; cases h2 : (s.tables.get .pack).waiting
      · intro _; exact h2
      · simp
    have e2 : s.tables.pack = s.tables.pack.taken := by
      revert e; generalize s.tables.pack = y; intro e; cases y; unfold TableSlot.taken; simp_all
    split
    · have f := fitPack_spec s
      exact ⟨f.1, by rw [f.2.1]; exact e2, f.2.2⟩
    · exact ⟨.refl s, e2, rfl⟩

/-- Steps of the pack monitor after its table that leave its view of the completion. -/
def KeepsPack (s t : State) : Prop := KeepsPresence s t ∧ t.packView = s.packView

theorem KeepsPack.refl (s : State) : KeepsPack s s := ⟨.refl s, rfl⟩

theorem KeepsPack.of {s t : State} (h : t.calm = s.calm) : KeepsPack s t := ⟨.of h, packView_of_calm h⟩

theorem KeepsPack.trans {s t u : State} (a : KeepsPack s t) (b : KeepsPack t u) : KeepsPack s u :=
    ⟨a.1.trans b.1, b.2.trans a.2⟩

theorem packResistance_keepsPack (s : State) (x : ScanSet) : KeepsPack s (s.packResistance x) := by
    unfold packResistance; split <;> exact ⟨⟨rfl, rfl⟩, rfl⟩

theorem packRest_keepsPack (s : State) (x : ScanSet) : KeepsPack s (s.packRest x) := by
    unfold packRest; split <;> exact ⟨⟨rfl, rfl⟩, rfl⟩

theorem withEmpty_keepsPack (s : State) (n) : KeepsPack s (s.withEmptyCount n) := ⟨⟨rfl, rfl⟩, rfl⟩

theorem withExh_keepsPack (s : State) (n) : KeepsPack s (s.withExhCount n) := ⟨⟨rfl, rfl⟩, rfl⟩

theorem packEmptyTest_keepsPack (s : State) (x : ScanSet) : KeepsPack s (s.packEmptyTest x) := by
  unfold packEmptyTest; split
  · exact .refl s
  · dsimp only; split
    · split
      · exact (KeepsPack.of (endCond_calm s .packEmpty)).trans (withEmpty_keepsPack _ _)
      · exact .refl s
    · split
      · split
        · exact (withEmpty_keepsPack s _).trans (KeepsPack.of ((emptyAnchor_calm _).trans (raise_calm _ _ _)))
        · exact withEmpty_keepsPack ..
      · exact withEmpty_keepsPack ..

theorem packExhaustTest_keepsPack (s : State) : KeepsPack s s.packExhaustTest := by
  unfold packExhaustTest; dsimp only; split
  · split
    · exact .of (endCond_calm _ _)
    · exact .refl s
  · split
    · split
      · have := (withExh_keepsPack s 0).trans (KeepsPack.of (raise_calm (s.withExhCount 0) .budgetExhausted 0))
        exact this.trans ⟨⟨rfl, rfl⟩, rfl⟩
      · exact withExh_keepsPack ..
    · exact withExh_keepsPack ..

theorem steady_state {s t : State} (h : t.steady = s.steady) : t.power.state = s.power.state := congrArg Steady.state h

theorem steady_held {s t : State} (h : t.steady = s.steady) : t.power.held = s.power.held := congrArg Steady.held h

theorem steady_acq {s t : State} (h : t.steady = s.steady) : t.acq = s.acq := congrArg Steady.acq h

theorem steady_live {s t : State} (h : t.steady = s.steady) : t.live = s.live := by
    unfold State.live; rw [steady_state h, steady_held h]

theorem steady_awake {s t : State} (h : t.steady = s.steady) : t.awake = s.awake := by
    unfold State.awake; rw [steady_state h, steady_held h]

theorem steady_on {s t : State} (h : t.steady = s.steady) : t.stillOn = s.stillOn := by
    unfold stillOn; rw [steady_live h, steady_acq h]

theorem latchTest_keepsPack (s : State) : KeepsPack s s.latchTest := by
    unfold latchTest; split <;> exact ⟨⟨rfl, rfl⟩, rfl⟩

theorem packScan_spec (s : State) (x : ScanSet) (h : s.power.state = .sleep → s.pack.shipCount < 2) :
    KeepsPresence s (s.packScan x) ∧ (s.packScan x).pack.v = x.volts ∧ (s.packScan x).pack.prev = some x.point ∧
    (s.packScan x).tables.pack = s.tables.pack.taken := by
  unfold packScan; dsimp only
  obtain ⟨a1, a2, a3⟩ := packTable_spec s
  generalize s.packTable = A at *
  have b : KeepsPack (A.packVolts x)
      (((((A.packVolts x).packResistance x).packCharge x).packRest x).formSoc.packBudget x) := by
    refine (packResistance_keepsPack _ x).trans ?_
    generalize (A.packVolts x).packResistance x = B
    have : KeepsPack B (B.packCharge x) := ⟨⟨rfl, rfl⟩, rfl⟩
    refine this.trans ((packRest_keepsPack _ x).trans ?_)
    exact ⟨⟨rfl, rfl⟩, rfl⟩
  have c := b.trans ((packEmptyTest_keepsPack _ x).trans (packExhaustTest_keepsPack _))
  generalize State.packExhaustTest _ = C at c
  have hv : C.pack.v = x.volts := congrArg PackView.v c.2
  have hs : C.pack.shipCount = s.pack.shipCount := (congrArg PackView.shipCount c.2).trans a3
  have ht : C.tables.pack = A.tables.pack := congrArg PackView.table c.2
  have hc : KeepsPresence s C := a1.trans ((show KeepsPresence A (A.packVolts x) from ⟨rfl, rfl⟩).trans c.1)
  unfold packShipTest; split
  · rename_i hh
    have hsl : s.power.state = .sleep := (steady_state hc.1).symm.trans hh.1
    have := h hsl
    dsimp only; rw [if_neg]
    · exact ⟨hc, hv, rfl, ht.trans a2⟩
    · have e : (C.packKeep x).pack.shipCount = s.pack.shipCount := hs
      rw [e]; split <;> omega
  · exact ⟨hc, hv, rfl, ht.trans a2⟩

/-- The pack monitor's part of a completion, but for a third SLEEP scan below V_ship. -/
theorem packPart_spec (s : State) (x : ScanSet) (ho : s.stillOn = true) (h : s.power.state = .sleep →
    s.pack.shipCount < 2) :
    KeepsPresence s (s.packPart x) ∧ (s.packPart x).pack.v = x.volts ∧ (s.packPart x).pack.prev = some x.point ∧
    (s.packPart x).tables.pack = s.tables.pack.taken := by
  unfold packPart; rw [ho, if_pos rfl]
  obtain ⟨a, b, c, d⟩ := packScan_spec s x h
  have l := latchTest_keepsPack (s.packScan x)
  have e := KeepsPack.of (settled_calm (s.packScan x).latchTest)
  have f := l.trans e
  generalize (s.packScan x).latchTest.settled = Z at *
  refine ⟨a.trans f.1, ?_, ?_, ?_⟩
  · exact (congrArg PackView.v f.2).trans b
  · exact (congrArg PackView.prev f.2).trans c
  · exact (congrArg PackView.table f.2).trans d

/-! ### The planner's part -/
theorem blockageScan_calm (s : State) (x : ScanSet) : (s.blockageScan x).calm = s.calm := by
  unfold blockageScan; split
  · split
    · split
      · rw [endCond_calm]; rfl
      · rfl
    · split
      · rw [raise_calm]; rfl
      · rfl
  · rfl

theorem planPart_calm (s : State) (x : ScanSet) : (s.planPart x).calm = s.calm := by
  unfold planPart; split
  · rw [settled_calm, blockageScan_calm]
  · rfl

/-! ### The charge unit's part -/

/-- The steady part and the pack monitor's view are as before. -/
def KeepsScan (s t : State) : Prop := t.steady = s.steady ∧ t.packView = s.packView

theorem KeepsScan.of {s t : State} (h : t.calm = s.calm) : KeepsScan s t := ⟨steady_of_calm h, packView_of_calm h⟩

theorem KeepsScan.refl (s : State) : KeepsScan s s := ⟨rfl, rfl⟩

theorem KeepsScan.trans {s t u : State} (a : KeepsScan s t) (b : KeepsScan t u) : KeepsScan s u :=
    ⟨b.1.trans a.1, b.2.trans a.2⟩

theorem raiseAtClose_keepsScan (s : State) (k : CauseKind) : KeepsScan s (s.raiseAtClose k) := by
    unfold raiseAtClose; split <;> exact ⟨rfl, rfl⟩

theorem cancelShip_keepsScan (s : State) : KeepsScan s s.cancelShip := by unfold cancelShip; split <;> exact ⟨rfl, rfl⟩

theorem packAtDock_keepsScan (s : State) : KeepsScan s s.packAtDock := by
  unfold packAtDock
  refine KeepsScan.trans ?_ (.of (abortProbe_calm _ _))
  exact (KeepsScan.of (endCond_calm s .packEmpty)).trans ⟨rfl, rfl⟩

theorem wake_of_not_sleep (s : State) (h : s.power.state ≠ .sleep) : s.wake = s := by unfold wake; rw [if_neg h]

/-- The onset of presence: what comes before its wake keeps the scan's figures. -/
theorem becomePresent_eq (s : State) : ∃ u : State, KeepsScan s u ∧
    s.becomePresent = if u.wake.drive.motor = .stopped then u.wake.openFromDischarge else u.wake := by
  refine ⟨_, ?_, rfl⟩
  refine KeepsScan.trans ?_ (packAtDock_keepsScan _)
  refine KeepsScan.trans ?_ (.of (endLockout_calm _))
  refine KeepsScan.trans ?_ (cancelShip_keepsScan _)
  refine KeepsScan.trans ?_ (.of (closeClean_calm _ _))
  refine KeepsScan.trans ?_ (raiseAtClose_keepsScan _ _)
  exact ⟨rfl, rfl⟩

theorem becomePresent_keepsScan (s : State) (h : s.power.state ≠ .sleep) : KeepsScan s s.becomePresent := by
  obtain ⟨u, a, e⟩ := becomePresent_eq s
  rw [e, wake_of_not_sleep u (by rw [steady_state a.1]; exact h)]
  split
  · exact a.trans (.of (openFromDischarge_calm _))
  · exact a

theorem restoreDockStaging_keepsScan (s : State) : KeepsScan s s.restoreDockStaging := by
    unfold restoreDockStaging; split <;> exact ⟨rfl, rfl⟩

theorem becomeAbsent_keepsScan (s : State) : KeepsScan s s.becomeAbsent := by
  unfold becomeAbsent; dsimp only
  refine KeepsScan.trans ?_ (KeepsScan.of (openFromCharge_calm _ _))
  refine KeepsScan.trans ?_ (restoreDockStaging_keepsScan _)
  refine KeepsScan.trans ?_ (KeepsScan.of (endCond_calm _ _))
  refine KeepsScan.trans ?_ (KeepsScan.of (endCond_calm _ _))
  refine KeepsScan.trans ?_ (KeepsScan.of (endCond_calm _ _))
  refine KeepsScan.trans ?_ (raiseAtClose_keepsScan _ _)
  exact ⟨rfl, rfl⟩

theorem exitScan_keepsScan (s : State) (x : ScanSet) : KeepsScan s (s.exitScan x) := by
  unfold exitScan; split
  · exact .refl s
  · split
    · exact .of (enterPhase_calm _ _)
    · exact ⟨rfl, rfl⟩

theorem bleedScan_keepsScan (s : State) (x : ScanSet) : KeepsScan s (s.bleedScan x) := ⟨rfl, rfl⟩

theorem sessionScan_keepsScan (s : State) (x : ScanSet) : KeepsScan s (s.sessionScan x) := by
  unfold sessionScan; split
  · split
    · have h : KeepsScan s s.freeUsed := ⟨rfl, rfl⟩
      exact (h.trans (bleedScan_keepsScan _ x)).trans (exitScan_keepsScan _ x)
    · exact (exitScan_keepsScan s x).trans (bleedScan_keepsScan _ x)
  · exact bleedScan_keepsScan s x

theorem presenceScan_keepsScan (s : State) (x : ScanSet) (h : s.power.state ≠ .sleep ∨ s.highTimeAfter x < 100000) :
    KeepsScan s (s.presenceScan x) := by
  unfold presenceScan; dsimp only; split
  · refine becomePresent_keepsScan s ?_
    rcases h with h | h
    · exact h
    · omega
  · split
    · split
      · exact becomeAbsent_keepsScan s
      · exact ⟨rfl, rfl⟩
    · exact ⟨rfl, rfl⟩

/-- The charge unit's part of a completion, where no onset of presence wakes the part. -/
theorem chargePart_keepsScan (s : State) (x : ScanSet) (h : s.power.state ≠ .sleep ∨ s.highTimeAfter x < 100000) :
    KeepsScan s (s.chargePart x) := by
  unfold chargePart chargeScan; split
  · exact ((presenceScan_keepsScan s x h).trans (sessionScan_keepsScan _ x)).trans (.of (settled_calm _))
  · exact .refl s

/-- A fact of how far the consumers have come, whatever their order (log 4). -/
theorem handOn_induction (s : State) (x : ScanSet) (K : Bool → Bool → State → Prop)
    (hk : K false false s) (kf : K false false s.freeUsed)
    (pk : ∀ c t, K false c t → K true c (t.packPart x))
    (ck : ∀ p t, K p false t → K p true (t.chargePart x))
    (lk : ∀ p c t, K p c t → K p c (t.planPart x)) : K true true (s.handOn x) := by
  unfold handOn; dsimp only; split
  · unfold inOrder; split
    · exact lk _ _ _ (ck _ _ (pk _ _ kf))
    · exact ck _ _ (lk _ _ _ (pk _ _ kf))
    · exact lk _ _ _ (pk _ _ (ck _ _ kf))
    · exact pk _ _ (lk _ _ _ (ck _ _ kf))
    · exact ck _ _ (pk _ _ (lk _ _ _ kf))
    · exact pk _ _ (ck _ _ (lk _ _ _ kf))
  · exact lk _ _ _ (ck _ _ (pk _ _ hk))

/-! ### The start of a scan -/

/-- The start of a scan keeps whatever `acq`, the tables, a condition's end and the free order do not bear on. -/
theorem startScan_keeps {α : Type} (f : State → α) (ha : ∀ s a, f { s with acq := a } = f s) (ht : ∀ s t,
    f (State.takeUp s t) = f s)
    (he : ∀ s k, f (State.endCond s k) = f s) (hf : ∀ s, f (State.freeUsed s) = f s) (s : State) :
        f s.startScan = f s := by
  have eu : ∀ (ks : List CauseKind) (s : State), f (ks.foldl State.endUnheld s) = f s := by
    intro ks; induction ks with
    | nil => intro s; rfl
    | cons k ks ih =>
      intro s; rw [List.foldl_cons, ih]; unfold endUnheld; split
      · rfl
      · exact he s k
  have c : ∀ s : State, f s.takeUpChannels = f s := by
    intro s; unfold takeUpChannels; split
    · dsimp only; rw [eu, ha, ht]
    · rfl
  have d : ∀ s : State, f s.takeUpScan = f s := by
    intro s; unfold takeUpScan; split
    · dsimp only; split
      · rw [eu, ha, ht]
      · rw [he, eu, ha, ht]
    · rfl
  have e : f s.takeUpScanTables = f s := by
    unfold takeUpScanTables; split
    · split
      · rw [c, d, hf]
      · rw [d, c, hf]
    · rw [d, c]
  unfold startScan; dsimp only; rw [ha, e]


/-- The scan of a wake likewise. -/
theorem wakeScan_keeps {α : Type} (f : State → α) (ha : ∀ s a, f { s with acq := a } = f s) (ht : ∀ s t,
    f (State.takeUp s t) = f s)
    (he : ∀ s k, f (State.endCond s k) = f s) (hf : ∀ s, f (State.freeUsed s) = f s) (s : State) :
        f s.wakeScan = f s := by
  unfold wakeScan; split
  · exact ha _ _
  · exact startScan_keeps f ha ht he hf s


theorem wake_asleep (s : State) (h : s.power.state = .sleep) : s.wake = (({ s with
      power := { s.power with state := .awake, settle := some 0, settleScan := false },
      dirt := s.dirt.freshWindow,
      modem := { s.modem with rx := .idle, toneRun := 0 },
      pack := { s.pack with shipCount := 0 },
      charge := { s.charge with
        helloWait := if s.charge.presence = .present then some (ticksOfMs 2000) else s.charge.helloWait } } :
            State).startTelemetry).wakeScan := by
  unfold wake; rw [if_pos h]

end State

end Sys2Proof.Machine
end

