-- ==== Sys2Proof/Laws/Forming.lean ====
section
/-! SUPPORT. What `settled` leaves of the frame unit and of the open session: only its keep-alive part touches the frame
unit, and the operations on the motor add causes to a session at most. -/

namespace Sys2Proof.Machine.State

/-! ### The frame unit -/

@[simp] theorem endCond_frame (s : State) (k : CauseKind) : (s.endCond k).frame = s.frame := by
  unfold endCond; split <;> rfl

@[simp] theorem takeUp_frame (s : State) (t : TableId) : (s.takeUp t).frame = s.frame := by
  unfold takeUp; split <;> rfl

@[simp] theorem takeUpDrive_frame (s : State) : s.takeUpDrive.frame = s.frame := by
  unfold takeUpDrive; split
  · rw [driveChangeover_frame, takeUp_frame]
  · rfl

@[simp] theorem setBand_frame (s : State) (b : Nat) : (s.setBand b).frame = s.frame := by
  unfold setBand; split <;> rfl

@[simp] theorem enterCoast_frame (s : State) : s.enterCoast.frame = s.frame := by
  unfold enterCoast; dsimp only; rw [takeUpDrive_frame]; split
  · unfold planRunExit; dsimp only; rw [endCond_frame]; exact setBand_frame _ _
  · rfl

@[simp] theorem openFromDischarge_frame (s : State) : s.openFromDischarge.frame = s.frame := by
  unfold openFromDischarge; split <;> rfl

@[simp] theorem startIfDue_frame (s : State) : s.startIfDue.frame = s.frame := by
  unfold startIfDue; split
  · unfold startSequence logMotorStart; split
    · rfl
    · split <;> rfl
  · rfl

@[simp] theorem restStopped_frame (s : State) : s.restStopped.frame = s.frame := by
  unfold restStopped; dsimp only; split
  · rw [openFromDischarge_frame, takeUpDrive_frame, endCond_frame]
  · rw [takeUpDrive_frame, endCond_frame]

@[simp] theorem abortProbe_frame (s : State) (w : ProbeResult) : (s.abortProbe w).frame = s.frame := by
  unfold abortProbe; split
  · unfold endProbe; rw [startIfDue_frame]; exact restStopped_frame s
  · rfl

@[simp] theorem formHold_frame (s : State) : s.formHold.frame = s.frame := by
  unfold formHold; split
  · rfl
  · dsimp only; split
    · rw [abortProbe_frame]
    · rfl

@[simp] theorem fullAnchor_frame (s : State) : s.fullAnchor.frame = s.frame := by
  have h : s.fullAnchor.frame = s.learnCapacity.frame := rfl
  rw [h]; unfold learnCapacity; split <;> rfl

@[simp] theorem enterPhase_frame (s : State) (p : Nat) : (s.enterPhase p).frame = s.frame := by
  unfold enterPhase; dsimp only; split
  · rw [fullAnchor_frame]; rfl
  · rfl

@[simp] theorem choosePath_frame (s : State) : s.choosePath.frame = s.frame := by
  unfold choosePath; split
  · split
    · rfl
    · split
      · unfold openCharge; rw [enterPhase_frame]
      · rfl
    · rfl
  · rfl

@[simp] theorem formDemand_frame (s : State) : s.formDemand.frame = s.frame := by
  unfold formDemand; dsimp only; split
  · rfl
  · split
    · unfold freshDemand; dsimp only; split <;> simp
    · unfold withdraw; dsimp only; split <;> simp

@[simp] theorem formIdle_frame (s : State) : s.formIdle.frame = s.frame := by
  unfold formIdle; split
  · split <;> rfl
  · rfl

/-- What is formed again changes the frame unit by the keep-alive check alone. -/
theorem formAll_frame (s : State) : s.formAll.frame = s.formKeep.frame := by
  unfold formAll; simp

/-! ### The keep-alive check (08 R155) -/

/-- What decides whether the check is active stays as it is. -/
theorem keepActive_of_calm {s t : State} (h : t.calm = s.calm) : t.keepActive = s.keepActive := by
  unfold keepActive systemField
  rw [Calm.powerState_eq h, Calm.permit_eq h, Calm.systemTable_eq h]

/-- The window after the check has been formed again: running where the check is active, IDLE where it is not. -/
theorem formKeep_keep (s : State) :
    s.formKeep.frame.keep =
      if s.keepActive then (if s.frame.keep = .idle then .running true 0 else s.frame.keep) else .idle := by
  unfold formKeep; split
  · split
    · rfl
    · rfl
  · split
    · rename_i h; exact h
    · rw [endCond_frame]

/-- The window after an event is the one its keep-alive check forms. -/
theorem settled_keep (s : State) :
    s.settled.frame.keep =
      if s.keepActive then (if s.frame.keep = .idle then .running true 0 else s.frame.keep) else .idle := by
  unfold settled
  rw [formAll_frame, formKeep_keep, keepActive_of_calm (formAll_calm s), formAll_frame, formKeep_keep]
  cases s.keepActive <;> simp
  split <;> simp_all

/-! ### The open session while the motor is put off (09 R160) -/

/-- The open session but for its causes seen. -/
def sessionCore (s : State) : Option Session := s.log.session.map fun a => { a with causes := [] }

@[simp] theorem occur_sessionCore (s : State) (k : CauseKind) (d e : Nat) : (s.occur k d e).sessionCore = s.sessionCore := by
  unfold sessionCore occur seeCause noteOccurrence; simp only [Option.map_map]; rfl

@[simp] theorem endCond_log (s : State) (k : CauseKind) : (s.endCond k).log = s.log := by
  unfold endCond; split <;> rfl

@[simp] theorem setBand_log (s : State) (b : Nat) : (s.setBand b).log = s.log := by
  unfold setBand; split <;> rfl

@[simp] theorem planRunExit_log (s : State) : s.planRunExit.log = s.log := by
  unfold planRunExit; dsimp only; rw [endCond_log]; exact setBand_log _ _

@[simp] theorem takeUp_sessionCore (s : State) (t : TableId) : (s.takeUp t).sessionCore = s.sessionCore := by
  unfold takeUp; split
  · exact occur_sessionCore _ _ _ _
  · rfl

@[simp] theorem takeUpDrive_sessionCore (s : State) : s.takeUpDrive.sessionCore = s.sessionCore := by
  unfold takeUpDrive; split
  · exact takeUp_sessionCore s _
  · rfl

@[simp] theorem enterCoast_sessionCore (s : State) : s.enterCoast.sessionCore = s.sessionCore := by
  unfold enterCoast; dsimp only; rw [takeUpDrive_sessionCore]; split
  · unfold sessionCore; rw [planRunExit_log]
  · rfl

@[simp] theorem formKeep_log (s : State) : s.formKeep.log = s.log := by
  unfold formKeep; split
  · split <;> rfl
  · split
    · rfl
    · rw [endCond_log]

theorem withdraw_sessionCore (s : State) : s.withdraw.sessionCore = s.sessionCore := by
  unfold withdraw; dsimp only; split
  · rw [enterCoast_sessionCore]; rfl
  · rfl

@[simp] theorem formIdle_log (s : State) : s.formIdle.log = s.log := by
  unfold formIdle; split
  · split <;> rfl
  · rfl

end Sys2Proof.Machine.State
end

