-- ==== Sys2Proof/Laws/Images.lean ====
section
/-! SUPPORT. What the small functions of table images, of their checks and of the speed bands answer: the entry layouts
read back what they wrote, a check names the first entry that fails, and a band is the one its edges give. -/

namespace Sys2Proof.Machine.State

/-! ### Entry layouts (12 section 12.3) -/

theorem natBytes_length (w n : Nat) : (natBytes w n).length = w := by unfold natBytes; simp

/-- A field's bytes are those of its value. -/
theorem intBytes_field (w : Nat) (sg : Bool) (hw : w = 1 ∨ w = 2 ∨ w = 4) (bs : List Byte) (h : bs.length = w) :
    intBytes w (if sg then bytesInt bs else (bytesNat bs : Int)) = bs := by
  have key : ∀ n : Nat, bytesNat bs = n → n < 256 ^ w →
      intBytes w (if sg then bytesInt bs else (bytesNat bs : Int)) = natBytes w n := by
    intro n hn hlt
    unfold intBytes bytesInt; rw [hn, h]; dsimp only
    cases sg
    · simp only [Bool.false_eq_true, if_false]; congr 1; rw [Int.emod_eq_of_lt (by omega) (by exact_mod_cast hlt)]; rfl
    · simp only [if_true]; split
      · congr 1; rw [Int.emod_eq_of_lt (by omega) (by exact_mod_cast hlt)]; rfl
      · congr 1
        rw [show ((n : Int) - ((256 ^ w : Nat) : Int)) = (n : Int) + ((256 ^ w : Nat) : Int) * (-1) by ring,
          Int.add_mul_emod_self_left, Int.emod_eq_of_lt (by omega) (by exact_mod_cast hlt)]; rfl
  rcases hw with rfl | rfl | rfl
  · match bs, h with
    | [a], _ =>
      rw [key a.toNat (by simp [bytesNat]) (by have := a.isLt; omega)]
      simp [natBytes]
  · match bs, h with
    | [a, b], _ =>
      have := a.isLt; have := b.isLt
      rw [key (a.toNat * 256 + b.toNat) (by simp [bytesNat]) (by omega)]
      simp only [natBytes, List.range_succ, List.range_zero, List.nil_append, List.cons_append, List.map_cons, List.map_nil]
      congr 1
      · apply BitVec.eq_of_toNat_eq; simp; omega
      · congr 1; apply BitVec.eq_of_toNat_eq; simp; omega
  · match bs, h with
    | [a, b, c, d], _ =>
      have := a.isLt; have := b.isLt; have := c.isLt; have := d.isLt
      rw [key (((a.toNat * 256 + b.toNat) * 256 + c.toNat) * 256 + d.toNat) (by simp [bytesNat]) (by omega)]
      simp only [natBytes, List.range_succ, List.range_zero, List.nil_append, List.cons_append, List.map_cons, List.map_nil]
      congr 1
      · apply BitVec.eq_of_toNat_eq; simp; omega
      · congr 1
        · apply BitVec.eq_of_toNat_eq; simp; omega
        · congr 1
          · apply BitVec.eq_of_toNat_eq; simp; omega
          · congr 1; apply BitVec.eq_of_toNat_eq; simp; omega

/-- An entry read from bytes is written as those bytes. -/
theorem encodeEntry_decodeEntry (l : List (Nat × Bool)) :
    (∀ f, f ∈ l → f.1 = 1 ∨ f.1 = 2 ∨ f.1 = 4) → ∀ bs : List Byte, (l.map (·.1)).sum ≤ bs.length →
      encodeEntry l (decodeEntry l bs) = bs.take (l.map (·.1)).sum := by
  induction l with
  | nil => intro _ bs _; simp [encodeEntry]
  | cons f l ih =>
    obtain ⟨w, sg⟩ := f
    intro hl bs h
    simp only [List.map_cons, List.sum_cons] at h ⊢
    unfold decodeEntry encodeEntry
    rw [List.headD_cons, List.drop_one, List.tail_cons,
      intBytes_field w sg (hl (w, sg) (by simp)) _ (by rw [List.length_take]; omega),
      ih (fun f hf => hl f (by simp [hf])) (bs.drop w) (by rw [List.length_drop]; omega)]
    rw [List.take_add]

theorem entryLayout_sum (t : TableId) (i : Nat) : ((entryLayout t i).map (·.1)).sum = entrySize t := by
  cases t <;> simp [entryLayout, entrySize]
  split <;> simp

set_option linter.unnecessarySeqFocus false in
theorem entryLayout_widths (t : TableId) (i : Nat) : ∀ f, f ∈ entryLayout t i → f.1 = 1 ∨ f.1 = 2 ∨ f.1 = 4 := by
  cases t <;> simp [entryLayout]
  split <;> simp <;> omega

theorem decodeEntries_length (t : TableId) : ∀ n first bs, (decodeEntries t first n bs).length = n := by
  intro n; induction n with
  | zero => intros; rfl
  | succ n ih => intro first bs; unfold decodeEntries; rw [List.length_cons, ih]

/-- Entry j of what is read from bytes. -/
theorem decodeEntries_at (t : TableId) : ∀ n first bs j, j < n →
    (decodeEntries t first n bs).getD j [] = decodeEntry (entryLayout t (first + j)) (bs.drop (j * entrySize t)) := by
  intro n; induction n with
  | zero => intro _ _ j hj; omega
  | succ n ih =>
    intro first bs j hj; unfold decodeEntries
    cases j with
    | zero => simp
    | succ j => rw [List.getD_cons_succ, ih _ _ _ (by omega), List.drop_drop]; congr 2 <;> ring

theorem writeEntries_length : ∀ (es : List (List Int)) (img : Image) first,
    (writeEntries img first es).length = img.length := by
  intro es; induction es with
  | nil => intros; rfl
  | cons e es ih => intro img first; unfold writeEntries; rw [ih]; simp

/-- Entry i after some entries were written: the one written there, or the one before. -/
theorem writeEntries_at : ∀ (es : List (List Int)) (img : Image) first i, first + es.length ≤ img.length →
    (writeEntries img first es).getD i [] =
      if first ≤ i ∧ i < first + es.length then es.getD (i - first) [] else img.getD i [] := by
  intro es; induction es with
  | nil => intro img first i _; unfold writeEntries; rw [if_neg (by simp)]
  | cons e es ih =>
    intro img first i h; unfold writeEntries
    simp only [List.length_cons] at h ⊢
    rw [ih _ _ _ (by simp; omega)]
    by_cases h1 : i = first
    · subst h1; rw [if_neg (by omega), if_pos (by omega)]; simp; rw [List.getElem?_set_self (by omega)]; simp
    · by_cases h2 : first + 1 ≤ i ∧ i < first + 1 + es.length
      · rw [if_pos h2, if_pos (by omega), show i - first = (i - (first + 1)) + 1 by omega, List.getD_cons_succ]
      · rw [if_neg h2, if_neg (by omega)]; simp only [List.getD_eq_getElem?_getD]
        rw [List.getElem?_set_ne (by omega)]

/-- Entries that stand in an image as they were read are written as the bytes they came from. -/
theorem encodeEntries_of_read (t : TableId) : ∀ n first (img : Image) (bs : List Byte), bs.length = n * entrySize t →
    (∀ j, j < n → img.getD (first + j) [] = decodeEntry (entryLayout t (first + j)) (bs.drop (j * entrySize t))) →
    encodeEntries t img first n = bs := by
  intro n; induction n with
  | zero => intro first img bs h _; unfold encodeEntries; simp at h; rw [h]
  | succ n ih =>
    intro first img bs h hj; unfold encodeEntries
    have h0 := hj 0 (by omega); simp only [Nat.add_zero, Nat.zero_mul, List.drop_zero] at h0
    have hlen : entrySize t ≤ bs.length := by rw [h, Nat.add_mul]; omega
    rw [h0, encodeEntry_decodeEntry _ (entryLayout_widths t first) _ (by rw [entryLayout_sum]; exact hlen), entryLayout_sum]
    rw [ih (first + 1) img (bs.drop (entrySize t)) (by rw [List.length_drop, h, Nat.add_mul]; omega) ?_, List.take_append_drop]
    intro j hjn
    have := hj (j + 1) (by omega)
    rw [show first + 1 + j = first + (j + 1) by omega, this, List.drop_drop]; congr 2; ring

/-! ### Checks (10 R175) -/

/-- The first index that fails, or none. -/
theorem firstBad_iff (n : Nat) (g : Nat → Bool) (r : Option Nat) : firstBad n g = r ↔
    match r with
    | none => ∀ i, i < n → g i = true
    | some k => k < n ∧ g k = false ∧ ∀ i, i < k → g i = true := by
  unfold firstBad
  cases r with
  | none => simp
  | some k =>
    dsimp only
    rw [List.find?_range_eq_some]
    simp
    tauto

/-- A check entry by entry refuses with the first entry that is not good. -/
theorem checkTable_of_entries (t : TableId) (img : Image) (g : Nat → Bool) (good : Nat → Prop)
    (h : checkTable t img = firstBad (tableEntries t) g) (hg : ∀ i, i < tableEntries t → (g i = true ↔ good i)) :
      (checkTable t img = none ↔ ∀ i, i < tableEntries t → good i) ∧
      (∀ k, checkTable t img = some k ↔ k < tableEntries t ∧ ¬ good k ∧ ∀ i, i < k → good i) := by
  rw [h]
  constructor
  · rw [firstBad_iff]; exact forall_congr' fun i => forall_congr' fun hi => hg i hi
  · intro k; rw [firstBad_iff]; dsimp only
    refine and_congr_right fun hk => and_congr ?_ ?_
    · rw [← hg k hk]; simp
    · exact forall_congr' fun i => forall_congr' fun hi => hg i (by omega)

theorem inRange_iff (a b c : Int) : inRange a b c = true ↔ a ≤ b ∧ b ≤ c := by simp [inRange]

/-! ### Changeovers of CHANNELS and SCAN (01 R11, R14) -/

theorem keptSides_getD (old new : Image) (f : Nat) (on : List Bool) (c : Nat) (h : c < on.length) :
    (keptSides old new f on).getD c false =
      (on.getD c false && (fieldNat new c f == fieldNat old c f) && decide (fieldNat new c f ≠ 0)) := by
  unfold keptSides; simp [h]

theorem clearAbsent_getD {α : Type} (p : List Nat) (x d : α) (xs : List α) (c : Nat) (h : c < xs.length) :
    (clearAbsent p x xs).getD c d = if 3 ≤ c && !p.contains c then x else xs.getD c d := by
  unfold clearAbsent; simp [h]

/-! ### Speed bands (04 R78) -/

/-- The band reached upward: every edge passed is at or below the speed, and the next one is above it. -/
theorem bandUp_spec (s : State) (v : Nat) : ∀ n b, b ≤ 7 → 7 ≤ b + n →
   b ≤ s.bandUp v n b ∧ s.bandUp v n b ≤ 7 ∧ (∀ c, b ≤ c → c < s.bandUp v n b → s.bandField c 0 ≤ v) ∧
   (s.bandUp v n b < 7 → v < s.bandField (s.bandUp v n b) 0) := by
  intro n; induction n with
  | zero =>
    intro b h1 h2; have : b = 7 := by omega
    subst this; unfold bandUp; exact ⟨by omega, by omega, fun c _ _ => by omega, by omega⟩
  | succ n ih =>
    intro b h1 h2; unfold bandUp; split
    · rename_i h; obtain ⟨a, b', c, d⟩ := ih (b+1) (by omega) (by omega)
      refine ⟨by omega, b', fun k hk hk2 => ?_, d⟩
      by_cases e : k = b
      · subst e; exact h.2
      · exact c k (by omega) hk2
    · rename_i h; refine ⟨by omega, h1, fun c _ _ => by omega, fun h7 => ?_⟩
      by_contra hc; exact h ⟨h7, by omega⟩

/-- The band reached downward: every edge passed lies more than 1000 rpm above the speed, and the next one does not. -/
theorem bandDown_spec (s : State) (v : Nat) : ∀ n b, b ≤ n →
   s.bandDown v n b ≤ b ∧ (∀ c, s.bandDown v n b ≤ c → c < b → v + 1000 < s.bandField c 0) ∧
   (0 < s.bandDown v n b → s.bandField (s.bandDown v n b - 1) 0 ≤ v + 1000) := by
  intro n; induction n with
  | zero =>
    intro b h; have : b = 0 := by omega
    subst this; unfold bandDown; exact ⟨by omega, fun c _ _ => by omega, by omega⟩
  | succ n ih =>
    intro b hb; unfold bandDown; split
    · rename_i h; obtain ⟨a, c, d⟩ := ih (b-1) (by omega)
      refine ⟨by omega, fun k hk hk2 => ?_, d⟩
      by_cases e : k = b - 1
      · subst e; exact h.2
      · exact c k hk (by omega)
    · rename_i h; refine ⟨by omega, fun c _ _ => by omega, fun h0 => ?_⟩
      by_contra hc; exact h ⟨h0, by omega⟩

end Sys2Proof.Machine.State
end

