-- ==== Sys2Proof/Laws/Path.lean ====
section
/-! SUPPORT. The pack path and the idle timer under an event's follow-up: the path after it is the one that
`choosePath` makes, and the idle timer runs after it exactly where its conditions hold. -/

namespace Sys2Proof.Machine.State

/-! ### The pack path (06 R110, R112) -/

/-- Path, dwell and session. -/
def pathPart (s : State) : Path × Option Nat × Option ChargeSession := (s.charge.path, s.charge.dwell, s.charge.session)

/-- An entry into STOPPED does not open the path. -/
def PathStays (s : State) : Prop := s.charge.path ≠ .discharge ∨ s.charge.presence ≠ .present

theorem pathPart_of_charge {s t : State} (h : t.charge = s.charge) : t.pathPart = s.pathPart := by
  unfold pathPart; rw [h]

theorem PathStays.of_eq {s t : State} (h : s.PathStays) (e : t.pathPart = s.pathPart)
    (hp : t.charge.presence = s.charge.presence) : t.PathStays := by
  have e1 : t.charge.path = s.charge.path := congrArg Prod.fst e
  unfold PathStays; rw [e1, hp]; exact h

/-- STOPPED entry leaves the charge unit alone, off DISCHARGE or without the dock. -/
theorem restStopped_charge_stays (s : State) (h : s.PathStays) : s.restStopped.charge = s.charge := by
  rcases h with h | h
  · have hc : ((({ s with drive := s.drive.toStopped } : State).endCond .lostSync).takeUpDrive).charge = s.charge := by
      rw [takeUpDrive_charge, endCond_charge]
    unfold restStopped; dsimp only; split
    · unfold openFromDischarge; rw [if_neg (by rw [hc]; exact h), hc]
    · exact hc
  · exact restStopped_charge s h

theorem abortProbe_charge_stays (s : State) (w : ProbeResult) (h : s.PathStays) : (s.abortProbe w).charge = s.charge := by
  unfold abortProbe; split
  · unfold endProbe; rw [startIfDue_charge]; exact restStopped_charge_stays s h
  · rfl

theorem formHold_charge (s : State) (h : s.PathStays) : s.formHold.charge = s.charge := by
  unfold formHold; split
  · rfl
  · dsimp only; split
    · exact abortProbe_charge_stays { s with cause := { s.cause with hold := s.holdNow } } _ h
    · rfl

theorem enterCoast_charge (s : State) : s.enterCoast.charge = s.charge := by
  unfold enterCoast; rw [takeUpDrive_charge]; split
  · unfold planRunExit; dsimp only; rw [endCond_charge]; unfold setBand; split <;> rfl
  · rfl

theorem formDemand_charge (s : State) (h : s.PathStays) : s.formDemand.charge = s.charge := by
  unfold formDemand; dsimp only; split
  · rfl
  · split
    · unfold freshDemand; dsimp only; split
      · exact abortProbe_charge_stays
          { s with drive := { s.drive with demand := true, attempts := 0, retry := none, waitStop := false } } _ h
      · rw [startIfDue_charge]
    · unfold withdraw; dsimp only; split
      · rw [enterCoast_charge]
      · rfl

theorem formIdle_charge (s : State) : s.formIdle.charge = s.charge := by
  unfold formIdle; split
  · split <;> rfl
  · rfl

@[simp] theorem abortProbe_hold_trip (s : State) (w : ProbeResult) : (s.abortProbe w).cause.trip = s.cause.trip := by
  unfold abortProbe; split
  · unfold endProbe; rw [startIfDue_trip]; exact restStopped_trip s
  · rfl

@[simp] theorem formHold_trip (s : State) : s.formHold.cause.trip = s.cause.trip := by
  unfold formHold; split
  · rfl
  · dsimp only; split
    · rw [abortProbe_hold_trip]
    · rfl

@[simp] theorem formKeep_trip (s : State) : s.formKeep.cause.trip = s.cause.trip := by
  unfold formKeep; split
  · split <;> rfl
  · split
    · rfl
    · rw [endCond_trip]

theorem fullAnchor_charge (s : State) : s.fullAnchor.charge = s.charge := by
  have h : s.fullAnchor.charge = s.learnCapacity.charge := rfl
  rw [h]; unfold learnCapacity; split <;> rfl

theorem fullAnchor_trip (s : State) : s.fullAnchor.cause.trip = s.cause.trip := by
  have h : s.fullAnchor.cause = s.learnCapacity.cause := rfl
  rw [h]; unfold learnCapacity; split <;> rfl

/-- A phase entry: RUNNING in its phase, path and dwell as before. -/
theorem enterPhase_pathPart (s : State) (p : Nat) :
    (s.enterPhase p).pathPart = (s.charge.path, s.charge.dwell, some { faulted := false, phase := p }) := by
  unfold enterPhase; dsimp only; split
  · unfold pathPart; rw [fullAnchor_charge]; rfl
  · rfl

theorem enterPhase_trip (s : State) (p : Nat) : (s.enterPhase p).cause.trip = s.cause.trip := by
  unfold enterPhase; dsimp only; split
  · rw [fullAnchor_trip]; rfl
  · rfl

@[simp] theorem choosePath_trip (s : State) : s.choosePath.cause.trip = s.cause.trip := by
  unfold choosePath; split
  · split
    · rfl
    · split
      · unfold openCharge; rw [enterPhase_trip]
      · rfl
    · rfl
  · rfl

@[simp] theorem formDemand_trip (s : State) : s.formDemand.cause.trip = s.cause.trip := by
  unfold formDemand; dsimp only; split
  · rfl
  · split
    · unfold freshDemand; dsimp only; split
      · rw [abortProbe_hold_trip]
      · rw [startIfDue_trip]
    · unfold withdraw; dsimp only; split
      · rw [enterCoast_trip]
      · rfl

@[simp] theorem formIdle_trip (s : State) : s.formIdle.cause.trip = s.cause.trip := by
  unfold formIdle; split
  · split <;> rfl
  · rfl

@[simp] theorem formAll_trip (s : State) : s.formAll.cause.trip = s.cause.trip := by
  unfold formAll; rw [formIdle_trip]
  show s.formKeep.formHold.choosePath.formRequest.formDemand.cause.trip = _
  rw [formDemand_trip]
  show s.formKeep.formHold.choosePath.cause.trip = _
  rw [choosePath_trip, formHold_trip, formKeep_trip]

/-- The path, dwell and session that the table of R112 gives. -/
def chosen (awake trip : Bool) (presence : Presence) (dock : Bool) (x : Path × Option Nat × Option ChargeSession) :
    Path × Option Nat × Option ChargeSession :=
  if x.1 = .opened ∧ x.2.1 = none ∧ awake = true ∧ trip = false then
    match presence with
    | .absent => (.discharge, none, x.2.2)
    | .present => if dock then (.charge, none, some { faulted := false, phase := 0 }) else x
    | .undecided => x
  else x

/-- The choice by the state's own conditions. -/
theorem choosePath_pathPart (s : State) :
    s.choosePath.pathPart =
      chosen (decide (s.power.state = .awake)) s.cause.trip s.charge.presence (isHeld s.charge.dock) s.pathPart := by
  unfold choosePath chosen pathPart
  simp only [decide_eq_true_eq]
  split
  · rename_i h; obtain ⟨h1, h2, _⟩ := h
    split
    · rename_i hp; rw [hp]; simp [h2]
    · rename_i hp; try rw [hp]
      try simp only
      split
      · unfold openCharge; rw [show ∀ (X : State) p, ((X.enterPhase p).charge.path, (X.enterPhase p).charge.dwell,
          (X.enterPhase p).charge.session) = (X.enterPhase p).pathPart from fun _ _ => rfl, enterPhase_pathPart]
        simp [h2]
      · rfl
    · rename_i hp; first | rfl | rw [hp]
  · rfl

theorem chosen_twice (a t : Bool) (p : Presence) (d : Bool) (x : Path × Option Nat × Option ChargeSession) :
    chosen a t p d (chosen a t p d x) = chosen a t p d x := by
  unfold chosen
  split
  · cases p <;> cases d <;> simp_all
  · rfl

/-- One round of the follow-up makes the choice of the path and no other change of it. -/
theorem formAll_pathPart (s : State) (h : s.PathStays) : s.formAll.pathPart = s.choosePath.pathPart := by
  have hK : s.formKeep.charge = s.charge := formKeep_charge s
  have sK : s.formKeep.PathStays := h.of_eq (pathPart_of_charge hK) (by rw [hK])
  have hH : s.formKeep.formHold.charge = s.charge := (formHold_charge _ sK).trans hK
  have c : s.formKeep.formHold.calm = s.calm := by simp
  have e1 : s.formKeep.formHold.choosePath.pathPart = s.choosePath.pathPart := by
    rw [choosePath_pathPart, choosePath_pathPart s, formHold_trip, formKeep_trip, Calm.powerState_eq c, hH,
      pathPart_of_charge hH]
  have p1 : s.formKeep.formHold.choosePath.charge.presence = s.charge.presence :=
    Calm.presence_eq ((choosePath_calm _).trans c)
  have sC : s.formKeep.formHold.choosePath.formRequest.PathStays := by
    show s.formKeep.formHold.choosePath.charge.path ≠ .discharge ∨ _ ≠ _
    have e2 : s.formKeep.formHold.choosePath.charge.path = s.choosePath.charge.path := congrArg Prod.fst e1
    rw [formRequest_charge, e2, p1]
    by_cases hp : s.charge.presence = .present
    · refine .inl ?_
      have hd : s.charge.path ≠ .discharge := h.resolve_right (fun x => x hp)
      have : s.choosePath.charge.path = (s.choosePath.pathPart).1 := rfl
      rw [this, choosePath_pathPart]; unfold chosen; rw [hp]; simp only
      split
      · split
        · simp
        · exact hd
      · exact hd
    · exact .inr hp
  unfold formAll
  have e3 : (s.formKeep.formHold.choosePath.formRequest.formDemand.formCap.formIdle).pathPart =
      s.formKeep.formHold.choosePath.formRequest.formDemand.pathPart := by
    rw [pathPart_of_charge (formIdle_charge _)]; rfl
  rw [e3, pathPart_of_charge (formDemand_charge _ sC)]; exact e1

/-- The path, its dwell and the session after an event are those of `choosePath`. -/
theorem settled_pathPart (s : State) (h : s.PathStays) : s.settled.pathPart = s.choosePath.pathPart := by
  have e := formAll_pathPart s h
  have c := formAll_calm s
  have h2 : s.formAll.PathStays := by
    refine PathStays.of_eq (s := s.choosePath) ?_ e ?_
    · have hp : s.choosePath.charge.presence = s.charge.presence := Calm.presence_eq (choosePath_calm s)
      unfold PathStays; rw [hp]
      by_cases hq : s.charge.presence = .present
      · refine .inl ?_
        have hd : s.charge.path ≠ .discharge := h.resolve_right (fun x => x hq)
        have : s.choosePath.charge.path = (s.choosePath.pathPart).1 := rfl
        rw [this, choosePath_pathPart]; unfold chosen; rw [hq]; simp only
        split
        · split
          · simp
          · exact hd
        · exact hd
      · exact .inr hq
    · rw [Calm.presence_eq c, Calm.presence_eq (choosePath_calm s)]
  unfold settled
  rw [formAll_pathPart _ h2, choosePath_pathPart s.formAll, e, formAll_trip, Calm.powerState_eq c,
    Calm.presence_eq c, Calm.dock_eq c, choosePath_pathPart s, chosen_twice]

/-! ### The idle timer (11 R184) -/

theorem formIdle_idle (s : State) :
    s.formIdle.power.idleTimer =
      if s.idleRuns then some (s.power.idleTimer.getD 0) else none := by
  unfold formIdle; split
  · split
    · rename_i h; rw [h]; rfl
    · rename_i h; cases hx : s.power.idleTimer with
      | none => exact absurd hx h
      | some n => rfl
  · rfl

theorem formIdle_runs (s : State) : s.formIdle.idleRuns = s.idleRuns := by
  unfold idleRuns systemField
  rw [formIdle_drive, formIdle_charge, Calm.powerState_eq (formIdle_calm s), Calm.shipPending_eq (formIdle_calm s),
    Calm.systemTable_eq (formIdle_calm s)]

theorem takeUpDrive_power (s : State) : s.takeUpDrive.power = s.power := by
  unfold takeUpDrive; split
  · exact takeUp_power s .drive
  · rfl

theorem enterCoast_power (s : State) : s.enterCoast.power = s.power := by
  unfold enterCoast; rw [takeUpDrive_power]; split
  · unfold planRunExit; dsimp only; rw [endCond_power]; unfold setBand; split <;> rfl
  · rfl

theorem startIfDue_power (s : State) : s.startIfDue.power = s.power := by
  unfold startIfDue startSequence; split
  · unfold logMotorStart; split
    · rfl
    · split <;> rfl
  · rfl

theorem restStopped_power (s : State) : s.restStopped.power = s.power := by
  have hc : ((({ s with drive := s.drive.toStopped } : State).endCond .lostSync).takeUpDrive).power = s.power := by
    rw [takeUpDrive_power, endCond_power]
  unfold restStopped; dsimp only; split
  · unfold openFromDischarge; split
    · exact hc
    · exact hc
  · exact hc

theorem enterStopped_power (s : State) : s.enterStopped.power = s.power := by
  unfold enterStopped; rw [startIfDue_power, restStopped_power]

theorem abortProbe_power (s : State) (w : ProbeResult) : (s.abortProbe w).power = s.power := by
  unfold abortProbe; split
  · unfold endProbe; rw [startIfDue_power]; exact restStopped_power s
  · rfl

theorem choosePath_power (s : State) : s.choosePath.power = s.power := by
  have hp : ∀ (X : State) p, (X.enterPhase p).power = X.power := by
    intro X p; unfold enterPhase; dsimp only; split
    · have h : ∀ Y : State, Y.fullAnchor.power = Y.learnCapacity.power := fun _ => rfl
      rw [h]; unfold learnCapacity; split <;> rfl
    · rfl
  unfold choosePath; split
  · split
    · rfl
    · split
      · unfold openCharge; rw [hp]
      · rfl
    · rfl
  · rfl

theorem formDemand_power (s : State) : s.formDemand.power = s.power := by
  unfold formDemand; dsimp only; split
  · rfl
  · split
    · unfold freshDemand; dsimp only; split
      · rw [abortProbe_power]
      · rw [startIfDue_power]
    · unfold withdraw; dsimp only; split
      · rw [enterCoast_power]
      · rfl

/-- One round of the follow-up: the idle timer runs where its conditions then hold, from 0 where it did not run. -/
theorem formAll_idle (s : State) :
    s.formAll.power.idleTimer = if s.formAll.idleRuns then some (s.power.idleTimer.getD 0) else none := by
  have e : s.formKeep.formHold.choosePath.formRequest.formDemand.formCap.power.idleTimer = s.power.idleTimer := by
    show s.formKeep.formHold.choosePath.formRequest.formDemand.power.idleTimer = _
    rw [formDemand_power]
    show s.formKeep.formHold.choosePath.power.idleTimer = _
    rw [choosePath_power]
    have : s.formKeep.formHold.power = s.formKeep.power := by
      unfold formHold; split
      · rfl
      · dsimp only; split
        · rw [abortProbe_power]
        · rfl
    rw [this, formKeep_power]
  unfold formAll
  rw [formIdle_runs, formIdle_idle, e]

/-- The idle timer after an event: none where its conditions fail, and 0 where it was none or 0. -/
theorem settled_idle (s : State) :
    s.settled.power.idleTimer = if s.settled.idleRuns then some (s.formAll.power.idleTimer.getD 0) else none := by
  unfold settled; exact formAll_idle s.formAll

/-- Outside STOPPED and PROBE no follow-up brings STOPPED about. -/
theorem notStopped_closed : DriveClosed fun d => d.motor ≠ .stopped ∧ d.motor ≠ .probe where
  coast := fun d _ _ => ⟨by simp [Drive.toCoast], by simp [Drive.toCoast]⟩
  stopped := fun d h hp => absurd hp h.2
  align := fun d h hs => absurd hs h.1
  retry := fun _ h => h
  rise := fun _ h => h
  fall := fun _ h => h

theorem notProbe_closed : DriveClosed fun d => d.motor ≠ .probe where
  coast := fun d _ _ => by simp [Drive.toCoast]
  stopped := fun d h hp => absurd hp h
  align := fun d _ _ => by simp [Drive.toAlign]
  retry := fun _ h => h
  rise := fun _ h => h
  fall := fun _ h => h

/-- A motor that is STOPPED before and after a follow-up is STOPPED between its rounds. -/
theorem formAll_stopped_between (s : State) (h : s.drive.motor = .stopped) (ht : s.settled.drive.motor = .stopped) :
    s.formAll.drive.motor = .stopped := by
  have hp : s.formAll.drive.motor ≠ .probe := formAll_closed notProbe_closed s (by rw [h]; simp)
  by_contra hc
  have h2 := formAll_closed notStopped_closed s.formAll ⟨hc, hp⟩
  unfold settled at ht; exact h2.1 ht

/-- An idle timer that an event found idle or restarted runs from 0 after it. -/
theorem settled_idle_from_zero (s : State) (h : s.power.idleTimer = none ∨ s.power.idleTimer = some 0)
    (hr : s.settled.idleRuns = true) : s.settled.power.idleTimer = some 0 := by
  have hz : (s.power.idleTimer).getD 0 = 0 := by rcases h with h | h <;> rw [h] <;> rfl
  rw [settled_idle, hr, formAll_idle, hz]
  cases s.formAll.idleRuns <;> rfl

end Sys2Proof.Machine.State
end

