-- ==== Sys2Proof/Laws/Values.lean ====
section
/-! SUPPORT. What the shared operations on numbers, lists, bitmaps and the table store give (Operands.lean, Flags.lean),
one lemma each, so that no proof unfolds a fold. -/

namespace Sys2Proof.Machine

/-- The smaller bound first, then the larger: a clamp as minimum and maximum. -/
theorem clampInt_eq (lo hi v : Int) (h : lo ≤ hi) : clampInt lo hi v = max lo (min hi v) := by
  unfold clampInt; split
  · omega
  · split <;> omega

theorem foldl_min_spec (xs : List Nat) (a : Nat) :
    xs.foldl min a ≤ a ∧ (∀ x ∈ xs, xs.foldl min a ≤ x) ∧ (xs.foldl min a = a ∨ xs.foldl min a ∈ xs) := by
  induction xs generalizing a with
  | nil => simp
  | cons b xs ih =>
    obtain ⟨h1, h2, h3⟩ := ih (min a b)
    rw [List.foldl_cons]
    refine ⟨by omega, fun x hx => ?_, ?_⟩
    · rcases List.mem_cons.1 hx with rfl | h
      · omega
      · exact h2 x h
    · rcases h3 with h | h
      · by_cases hab : a ≤ b
        · left; omega
        · right; rw [h]; simp; left; omega
      · right; simp [h]

/-- The smallest of a list that is not empty is one of it and below every other. -/
theorem minNat_spec (xs : List Nat) (h : xs ≠ []) : minNat xs ∈ xs ∧ ∀ y, y ∈ xs → minNat xs ≤ y := by
  cases xs with
  | nil => exact absurd rfl h
  | cons a xs =>
    obtain ⟨h1, h2, h3⟩ := foldl_min_spec xs a
    refine ⟨?_, fun y hy => ?_⟩
    · show xs.foldl min a ∈ _
      rcases h3 with e | e
      · rw [e]; exact List.mem_cons_self
      · exact List.mem_cons_of_mem _ e
    · rcases List.mem_cons.1 hy with rfl | e
      · exact h1
      · exact h2 y e

theorem foldl_max_spec (xs : List Nat) (a : Nat) :
    a ≤ xs.foldl max a ∧ (∀ x ∈ xs, x ≤ xs.foldl max a) ∧ (xs.foldl max a = a ∨ xs.foldl max a ∈ xs) := by
  induction xs generalizing a with
  | nil => simp
  | cons b xs ih =>
    obtain ⟨h1, h2, h3⟩ := ih (max a b)
    rw [List.foldl_cons]
    refine ⟨by omega, fun x hx => ?_, ?_⟩
    · rcases List.mem_cons.1 hx with rfl | h
      · omega
      · exact h2 x h
    · rcases h3 with h | h
      · by_cases hab : b ≤ a
        · left; omega
        · right; rw [h]; simp; left; omega
      · right; simp [h]

/-- One element of a list mapped with its places. -/
theorem getD_zipIdx_map {α : Type} (xs : List α) (f : α × Nat → α) (i : Nat) (d : α) (h : i < xs.length) :
    ((xs.zipIdx).map f).getD i d = f (xs.getD i d, i) := by
  simp [List.getD_eq_getElem?_getD, List.getElem?_map, List.getElem?_zipIdx, List.getElem?_eq_getElem h]

/-- One element of a list of pieces of one length. -/
theorem getD_flatMap {α β : Type} (f : α → List β) (n : Nat) (d : β) (e : α) (h : ∀ a, (f a).length = n) (xs : List α)
    (c k : Nat) (hc : c < xs.length) (hk : k < n) : (xs.flatMap f).getD (n * c + k) d = (f (xs.getD c e)).getD k d := by
  induction xs generalizing c with
  | nil => simp at hc
  | cons a xs ih =>
    rw [List.flatMap_cons]
    cases c with
    | zero => rw [List.getD_append _ _ _ _ (by rw [h]; simpa using hk)]; simp
    | succ c =>
      rw [List.getD_append_right _ _ _ _ (by rw [h, Nat.mul_succ]; omega), h]
      have e1 : n * (c + 1) + k - n = n * c + k := by rw [Nat.mul_succ]; omega
      rw [e1, ih c (by simpa using hc)]; simp

theorem bitmap_from (marks : List Bool) : ∀ k a : Nat,
    (marks.zipIdx k).foldl (fun a m => if m.1 then a + 2 ^ m.2 else a) a = a + 2 ^ k * bitmap marks := by
  unfold bitmap
  induction marks with
  | nil => intro k a; simp
  | cons b bs ih =>
    intro k a
    simp only [List.zipIdx_cons, List.foldl_cons]
    rw [ih (k + 1), ih (0 + 1)]
    have e : 2 ^ (k + 1) = 2 ^ k * 2 := Nat.pow_succ ..
    cases b <;> simp [e] <;> ring

/-- A bitmap one place at a time. -/
theorem bitmap_cons (b : Bool) (bs : List Bool) : bitmap (b :: bs) = (if b then 1 else 0) + 2 * bitmap bs := by
  show ((b :: bs).zipIdx).foldl _ 0 = _
  rw [List.zipIdx_cons, List.foldl_cons, bitmap_from bs (0 + 1)]
  cases b <;> simp

/-- The table store read after one table is replaced. -/
theorem Tables.get_put (ts : Tables) (t v : TableId) (x : TableSlot) :
    (ts.put t x).get v = if v = t then x else ts.get v := by
  cases t <;> cases v <;> rfl

theorem cond_conditionKinds {s : State} {k : CauseKind} (h : s.cond k = true) : k ∈ conditionKinds := by
  cases k <;> first | (simp [conditionKinds]; done) | (simp [State.cond, isInfo, kindNum] at h)

/-- An action is in force where some present condition has it (08 R147). -/
theorem actionPresent_iff (s : State) (n : Nat) :
    s.actionPresent n = true ↔ ∃ k, s.cond k = true ∧ s.actionOf k = n := by
  unfold State.actionPresent; rw [List.any_eq_true]; constructor
  · rintro ⟨k, _, h⟩; simp at h; exact ⟨k, h⟩
  · rintro ⟨k, h1, h2⟩; exact ⟨k, cond_conditionKinds h1, by simp [h1, h2]⟩

end Sys2Proof.Machine
end

