-- ==== Sys2Proof/WellFormed.lean ====
section
/-! DEFINITION. Which commands the outside can send at all: a raw sample is a 12-bit converter value (01 R4), and a
contact voltage is one that a dock's two-byte figures can name (07 R138). Every other operand is right by its type. -/

namespace Sys2Proof

/-- A converter's raw value is 0..4095 (01 R4). -/
def rawInRange (raw : Nat) : Bool := raw ≤ 4095

/-- Well-formedness of a command: its operands are values that the outside can bring. -/
def Instr.wf : Instr → Bool
  | .fastFrame ibus iph pz => rawInRange ibus && rawInRange iph && rawInRange pz
  | .slotEnd raw => rawInRange raw
  | .powerOnReset (.contact mv) => mv ≤ 65535
  | .powerOnReset .supply => true
  | .scanCompletion => true
  | .sleepScanStart => true
  | .alignTime => true
  | .openStepEnd => true
  | .captureCommutation => true
  | .retryDwell => true
  | .zeroCrossing _ _ => true
  | .scheduledCommutation => true
  | .lostSync => true
  | .coastStop => true
  | .rampStep => true
  | .windowClose => true
  | .bandBlank => true
  | .rawInputChange _ _ => true
  | .triggerPress => true
  | .triggerRelease => true
  | .buttonPress => true
  | .buttonRelease => true
  | .probeIntervalEnd => true
  | .openDwell => true
  | .helloWait => true
  | .silenceTime => true
  | .dockLinkLost => true
  | .phaseTimeLimit => true
  | .carrierAssert => true
  | .carrierDeassert => true
  | .characterComplete => true
  | .breakMark => true
  | .contactEntryTaken => true
  | .replyWindowExpiry => true
  | .transmissionEnd => true
  | .chassisCharacter _ _ => true
  | .gap => true
  | .chassisFrameSent => true
  | .startUpWindow => true
  | .unknownKind => true
  | .ping => true
  | .status => true
  | .tableWrite => true
  | .tableRead => true
  | .tableActivate => true
  | .tableDiscard => true
  | .runPermit => true
  | .modeSet => true
  | .keepalive => true
  | .keepaliveWindowExpiry => true
  | .cause => true
  | .clearTrip => true
  | .counts => true
  | .logWindow => true
  | .logNext => true
  | .probe => true
  | .sleep => true
  | .ship => true
  | .reset => true
  | .dockHello => true
  | .dockPoll => true
  | .sessionIdleTime => true
  | .telemetryEmission => true
  | .idleTimer => true
  | .settleEnd => true
  | .resetLineChange _ => true
  | .pinReset => true
  | .chordReset => true
  | .receivedBitTime _ => true
  | .transmitStageEnd => true
  | .resetLineReturnHigh => true

end Sys2Proof
end

