-- ==== Sys2Proof/Tests/Slice0.lean ====
section
/-! SUPPORT. The author's own tests: ill-formed commands, the manual's worked figures, and for each statement that has
hypotheses a state and operands that meet them, at the boundaries of their ranges. -/

namespace Sys2Proof.Tests

open Sys2Proof Sys2Proof.Machine

/-! ### Well-formedness -/

/-- A raw sample of 4095 is well-formed and one of 4096 is not. -/
theorem test_raw_sample_bounds : (Instr.slotEnd 4095).wf = true ∧ (Instr.slotEnd 4096).wf = false := by decide

/-- Each of the three fast samples is checked. -/
theorem test_fast_frame_bounds :
    (Instr.fastFrame 4095 4095 4095).wf = true ∧ (Instr.fastFrame 4096 0 0).wf = false ∧
    (Instr.fastFrame 0 4096 0).wf = false ∧ (Instr.fastFrame 0 0 4096).wf = false := by decide

/-- A contact voltage of 65535 mV is well-formed and one of 65536 is not. -/
theorem test_contact_voltage_bounds :
    (Instr.powerOnReset (.contact 65535)).wf = true ∧ (Instr.powerOnReset (.contact 65536)).wf = false := by decide

/-- No row of the table gives bits, so no word spells a command. -/
theorem test_no_word_spells_a_command : decodeTableWord 8 0x5C = none ∧ decodeTableWord 16 0 = none := by decide

/-! ### Worked figures of the manual -/

/-- CRC of the nine digit characters (12 R190). -/
theorem test_crc_check_value : crcOf [0x31, 0x32, 0x33, 0x34, 0x35, 0x36, 0x37, 0x38, 0x39] = 0x29B1#16 := by
  decide +kernel

/-- Conversions of a cell, of IBUS and of a thermistor (01 section 1.3). -/
theorem test_conversions :
    convert (builtinChannels.getD 5 []) 3406 = 4258 ∧ convert (builtinChannels.getD 0 []) 2000 = 18600 ∧
    convert (builtinChannels.getD 12 []) 1500 = 524 := by decide

/-- Halves are rounded away from zero (00 section 4.2). -/
theorem test_rounding : roundDiv 3 2 = 2 ∧ roundDiv (-3) 2 = -2 ∧ roundDiv 5 4 = 1 ∧ roundDiv (-5) 4 = -1 := by decide

/-- Six steps come round to the first (02 R24). -/
theorem test_vectors_come_round : nextStep (nextStep (nextStep (nextStep (nextStep (nextStep 1))))) = 1 := by decide

/-! ### Small states -/

/-- A state after reset with another drive unit. -/
def withDrive (d : Drive) : State := { State.reset with drive := d }

/-- A state after reset with another charge unit. -/
def withCharge (c : Charge) : State := { State.reset with charge := c }

/-- A state after reset with another modem. -/
def withModem (m : Modem) : State := { State.reset with modem := m }

/-- A state after reset with another frame unit. -/
def withFrame (f : Frame) : State := { State.reset with frame := f }

/-- A state after reset with another acquisition unit. -/
def withAcq (a : Acq) : State := { State.reset with acq := a }

/-- A state after reset with another power control. -/
def withPower (p : Power) : State := { State.reset with power := p }

/-- A state after reset in another motor state. -/
def inMotor (m : MotorState) : State := withDrive { Drive.reset with motor := m }

/-- SLEEP with nothing else changed. -/
def asleep : State := withPower { Power.reset with state := .sleep }

/-- A request of a kind and body. -/
def ask (kind : Byte) (body : List Byte) : Request := { kind := kind, body := body, order := 0, period := 0 }

/-- A state with a request in the chassis slot. -/
def asked (s : State) (kind : Byte) (body : List Byte) : State :=
  { s with frame := { s.frame with chSlot := some (ask kind body), startup := none } }

/-- A state with a request in the contact slot. -/
def askedByDock (s : State) (kind : Byte) (body : List Byte) : State :=
  { s with frame := { s.frame with coSlot := some (ask kind body), startup := none } }

/-- A charge session in a phase of the built-in CHARGE image, with a dock record. -/
def charging (phase : Nat) : Charge :=
  { Charge.reset with
    path := .charge, presence := .present, session := some { faulted := false, phase := phase }, cap := 300,
    dock := some { maxCurrent := 2500, maxVoltage := 30000, revision := 2 }, silence := some 0 }

/-! ### Witnesses: step and timers -/

/-- An empty queue with time passing, and in a held pin reset. -/
theorem test_hyps_empty_queue :
    (State.reset.pending = [] ∧ State.reset.live = true) ∧
    ((withPower { Power.reset with held := true }).pending = [] ∧
      (withPower { Power.reset with held := true }).live = false) := by decide

/-- Every timer one tick before it is due. -/
def almost : State :=
  { State.reset with
    acq := { Acq.reset with slotIndex := 12, sleepTimer := 11999999 },
    drive := { Drive.reset with
      stateTime := 2399999, stepTime := 1, capComms := 1, tCap := 1, retry := some 1, nextComm := some 1,
      crossTime := 23, tLast := 1, quiet := 239999, rampTime := 11999 },
    dirt := { Dirt.reset with winSamples := 15999, bandBlank := some 1 },
    plan := { Plan.reset with trigTime := 239999, btnTime := 239999 },
    pack := { Pack.reset with probeTime := 1199999 },
    charge := { charging 0 with
      dwell := some 1, helloWait := some 1, silence := some 11999999, phaseTime := 12000000 * 1800 - 1 },
    modem := { Modem.reset with toneRun := 5, silRun := 2, rx := .character [.mark], bitsSince := 21 },
    frame := { Frame.reset with
      gapTime := 1200, startup := some 1, telTimer := some 1, keep := .running false (12000000 - 1) },
    log := { Log.reset with idleTime := 7199999999 },
    power := { Power.reset with
      settle := some 599999, settleScan := true, idleTimer := some (12000000 * 300 - 1), lineLow := some 239,
      chord := some (119999999, 10000), lineBack := 59 } }

theorem test_hyps_timers_not_due_drive :
    almost.acq.slotIndex < almost.slotCount ∧ almost.acq.sleepTimer < 12000 * 1000 ∧
    almost.drive.stateTime < 12000 * almost.alignTimeMs ∧ almost.drive.stepTime < 12 * almost.openInterval.toNat ∧
    (almost.drive.capComms ≠ 0 ∧ almost.drive.stepTime < 12 * almost.drive.tCap) ∧ almost.drive.retry ≠ some 0 ∧
    almost.drive.nextComm ≠ some 0 ∧ almost.drive.crossTime < 24 * almost.drive.tLast ∧
    almost.drive.quiet < 12000 * 20 ∧ almost.drive.rampTime < 12000 ∧
    almost.dirt.winSamples < almost.windowLength ∧ almost.dirt.bandBlank ≠ some 0 ∧
    almost.plan.trigTime < 12000 * 20 ∧ almost.plan.btnTime < 12000 * 20 := by decide +kernel

theorem test_hyps_timers_not_due_rest :
    almost.pack.probeTime < 12000 * 100 ∧ almost.charge.dwell ≠ some 0 ∧ almost.charge.helloWait ≠ some 0 ∧
    almost.silentFor 1000 = false ∧ almost.silentFor 5000 = false ∧
    (almost.runningPhase = some 0 ∧ almost.charge.phaseTime < 12000000 * almost.phaseField 0 5) ∧
    almost.modem.toneRun < 6 ∧ almost.modem.silRun < 3 ∧ almost.modem.fullCharacter = none ∧
    almost.modem.bitsSince < 22 ∧ almost.frame.gapTime ≤ 12 * 100 ∧ almost.frame.startup ≠ some 0 ∧
    almost.frame.telTimer ≠ some 0 ∧ almost.log.idleTime < 12000 * 600000 ∧ almost.keepOver = false ∧
    almost.idleReached = false ∧ almost.settleOver = false ∧ almost.lowOver = false ∧ almost.chordOver = false ∧
    almost.power.lineBack < 12 * 5 := by decide +kernel

/-! ### Witnesses: samples -/

/-- The tenth frame of a slot in AWAKE, with room for one sample more in the dirt window, and a frame in SLEEP. -/
theorem test_hyps_fast_frame :
    (let s : State := { withAcq { Acq.reset with slotFrames := 9 } with dirt := { Dirt.reset with winSamples := 15999 } }
     s.frameDue = true ∧ s.awake = true ∧ s.frameChanges 512 0 0 = true ∧ s.frameChanges 512 1 1 = false) ∧
    (asleep.frameDue = true ∧ asleep.awake = false ∧ asleep.frameChanges 512 1 1 = false) := by decide +kernel

/-- The end of the last slot, and of a cell's slot with a saturated and an unsaturated sample. -/
theorem test_hyps_slot_end :
    (withAcq { Acq.reset with slotFrames := 10, slotIndex := 12 }).slotDue = true ∧
    (let s := withAcq { Acq.reset with slotFrames := 10, slotIndex := 2 }
     s.slotDue = true ∧ s.slotChannel 3 = 5 ∧ saturated 4095 = true ∧ saturated 4094 = false) := by decide +kernel

/-- A high side that is checked, at its limit and one above; a low side, at its limit and one below. -/
theorem test_hyps_sides :
    channelKind? (State.reset.sideCause 1 true) = some .overcurrent ∧ State.reset.channelField 1 4 = 32000 ∧
    channelKind? (State.reset.sideCause 12 false) = some .packCold ∧ State.reset.channelField 12 3 = -200 ∧
    12 < State.reset.acq.lowCount.length ∧ 12 < State.reset.acq.highCount.length ∧
    12 < State.reset.acq.lowOn.length ∧ 12 < State.reset.acq.highOn.length := by decide

/-- A side whose kind another side holds, and one that holds it alone (01 R8): CELL_OVER of two cells. -/
theorem test_hyps_kinds_of_sides :
    (let s (n : Nat) : State := withAcq { Acq.reset with
        highOn := (List.range 16).map fun c => decide (5 ≤ c ∧ c < 5 + n) }
     channelKind? ((s 2).sideCause 6 true) = some .cellOver ∧ (s 2).sideOn 6 true = true ∧
     ((s 2).setSide 6 true 0 false).sideOn 5 true = true ∧ (s 2).sideCause 5 true = kindNum .cellOver ∧
     (s 1).sideOn 5 true = true ∧ (s 0).sideOn 5 true = false ∧
     ∀ c ∈ List.range 16, ∀ h : Bool, ((s 1).setSide 5 true 0 false).sideOn c h = false) := by decide

/-- Samples that set the first saturation flag, keep one, and clear the last (01 R5). -/
theorem test_hyps_saturation :
    true ∉ State.reset.acq.sat ∧ true ∈ State.reset.acq.sat.set 3 true ∧
    true ∈ ((State.reset.acq.sat.set 3 true).set 4 true).set 4 false ∧
    true ∉ (State.reset.acq.sat.set 3 true).set 3 false ∧
    State.reset.cond .sampleSaturated = false ∧ State.reset.cause.present.length = 16 := by decide

/-- A scan that completes in AWAKE with an optical value and without one, and a SLEEP scan that is due. -/
theorem test_hyps_scans :
    (let s := withAcq { Acq.reset with slotIndex := 13 }
     s.completionDue = true ∧ s.awake = true ∧ s.scanSet.opt = none) ∧
    (let s := withAcq { Acq.reset with slotIndex := 13, scanVals := List.replicate 16 (some 5) }
     s.completionDue = true ∧ s.awake = true ∧ s.scanSet.opt = some 5) ∧
    ({ asleep with acq := { Acq.reset with scanning := false, sleepTimer := 12000000 } }).sleepScanDue = true := by
  decide +kernel

/-- A completion in SLEEP with two scans in the ship count to come, VDOCK too short and long enough for a dock, and a
part whose consumers act and one whose do not. -/
theorem test_hyps_sleep_scan :
    (let s (high : Nat) (slow : Bool) : State := { asleep with
        acq := { Acq.reset with slotIndex := 13, scanVals := List.replicate 16 (some 20000), scanAsleep := slow },
        charge := { Charge.reset with highTime := high }, pack := { Pack.reset with shipCount := 1 } }
     (s 0 true).completionDue = true ∧ (s 0 true).power.state = .sleep ∧ (s 0 true).pack.shipCount < 2 ∧
     100000 ≤ (s 0 true).highTimeAfter (s 0 true).scanSet ∧ (s 98374 false).completionDue = true ∧
     (s 98374 false).highTimeAfter (s 98374 false).scanSet = 99999 ∧
     (s 98375 false).highTimeAfter (s 98375 false).scanSet = 100000) ∧
    State.reset.acq.lastSet = none ∧ (withAcq { Acq.reset with lastSet := some { State.reset.scanSet with opt := none } }
      ).acq.lastSet ≠ none ∧ (withPower { Power.reset with state := .ship }).live = false := by decide +kernel

/-! ### Witnesses: suction drive -/

/-- A state in CAPTURE with T_cap 480 us, a number of commutations made and a time since the last one. -/
def inCapture (comms time : Nat) : State :=
  withDrive { Drive.reset with motor := .capture, tCap := 480, capComms := comms, stepTime := time }

/-- A state in RUN with T_last 480 us, an armed crossing on step 1 and a crossing count. -/
def inRun (count : Nat) : State :=
  withDrive { Drive.reset with
    motor := .run, tLast := 480, armed := true, stepTime := 720, revCount := count, crossTime := 11520,
    nextComm := some 0, duty := 80, revTime := 12, rampTime := 12000 }

/-- What a run request needs, with the motor STOPPED and the run demand up. -/
def ready : State :=
  { withDrive { Drive.reset with demand := true } with
    plan := { Plan.reset with trigger := true, permit := true },
    charge := { Charge.reset with path := .discharge, presence := .absent },
    power := { Power.reset with settle := none } }

/-- A table store with another DRIVE image. -/
def withDriveImage (s : State) (img : Image) : State :=
  { s with tables := { s.tables with drive := { s.tables.drive with active := img } } }

theorem test_hyps_vectors :
    (1 ≤ 5 ∧ 5 < 6) ∧ crossingStep .w .falling = 1 ∧ (driveVector 6).2.2 = (Phase.u, Direction.rising) ∧
    driving (inMotor .probe).drive.motor = true := by decide

/-- The ends of ALIGN and of open steps: into CAPTURE, a failed attempt on a table of short steps, and a next step. -/
theorem test_hyps_open_loop :
    ((withDrive { Drive.reset with motor := .align, stateTime := 2400000 }).drive.stateTime =
      12000 * State.reset.alignTimeMs) ∧
    (let s := withDrive { Drive.reset with motor := .rampOpen, openStep := 176, stepTime := 5760 }
     12 * (s.startInterval - s.drive.openStep * s.intervalStep).toNat ≤ s.drive.stepTime ∧
     s.startInterval - s.drive.openStep * s.intervalStep ≤ s.handoverInterval) ∧
    (let s := withDriveImage (withDrive { Drive.reset with motor := .rampOpen, openStep := 399, stepTime := 43212 })
        (builtinDrive.set 3 [1])
     12 * (s.startInterval - s.drive.openStep * s.intervalStep).toNat ≤ s.drive.stepTime ∧
     s.handoverInterval < s.startInterval - s.drive.openStep * s.intervalStep ∧
     s.maxOpenSteps ≤ s.drive.openStep + 1) ∧
    (let s := withDrive { Drive.reset with motor := .rampOpen, openStep := 175, stepTime := 6000 }
     12 * (s.startInterval - s.drive.openStep * s.intervalStep).toNat ≤ s.drive.stepTime ∧
     s.handoverInterval < s.startInterval - s.drive.openStep * s.intervalStep ∧
     s.drive.openStep + 1 < s.maxOpenSteps) := by decide +kernel

/-- Capture commutations, the last crossing times that confirm and the first that break the run. -/
theorem test_hyps_capture :
    ((withDrive { Drive.reset with motor := .capture, nextComm := some 0 }).drive.capComms = 0) ∧
    ((inCapture 11 5760).drive.capComms < 12 ∧ 12 * (inCapture 11 5760).drive.tCap ≤ 5760) ∧
    (12 ≤ (inCapture 12 5760).drive.capComms) ∧ (inCapture 1 2160).awake = true ∧
    crossingStep .w .falling = (inCapture 1 2160).drive.step ∧ crossingStep .u .rising ≠ (inCapture 1 2160).drive.step ∧
    36 * 480 ≤ 8 * (inCapture 1 2160).drive.stepTime ∧ 8 * (inCapture 1 3600).drive.stepTime ≤ 60 * 480 ∧
    8 * (inCapture 1 2159).drive.stepTime < 36 * 480 ∧ 60 * 480 < 8 * (inCapture 1 3601).drive.stepTime := by decide

/-- A crossing in RUN before the sixth, the sixth, one that comes too early, and a RUN entry. -/
theorem test_hyps_run :
    (inRun 4).awake = true ∧ (inRun 4).drive.armed = true ∧ crossingStep .w .falling = (inRun 4).drive.step ∧
    12 * (inRun 4).drive.tLast ≤ 8 * (inRun 4).drive.stepTime ∧ (inRun 4).drive.revCount < 5 ∧
    5 ≤ (inRun 5).drive.revCount ∧ 12 ≤ (inRun 5).drive.revTime ∧ (inRun 5).isPending .drive = false ∧
    (inRun 5).drive.nextComm = some 0 ∧ 12 ≤ (inRun 5).drive.crossTime ∧
    ((inRun 4).dutyMin : Int) ≤ ((inRun 4).drive.hold.getD (inRun 4).dutyMax : Nat) ∧
    crossingStep .u .rising ≠ (inRun 4).drive.step ∧
    ({ inRun 5 with tables := { Tables.reset with
        drive := { TableSlot.builtin .drive with waiting := some builtinDrive } } }).isPending .drive = true := by
  decide

/-- LOST_SYNC due at 2 x T_last, and failed attempts below and above start_retries. -/
theorem test_hyps_lost_sync :
    24 * (inRun 0).drive.tLast ≤ (inRun 0).drive.crossTime ∧ (inRun 0).cause.present.length = 16 ∧
    (inCapture 12 0).isPending .drive = false ∧ (inCapture 12 0).actionOf .startFail ≠ 3 ∧
    (inCapture 12 0).cond .startFail = false ∧ State.reset.drive.attempts + 1 ≤ State.reset.startRetries ∧
    (withDrive { Drive.reset with motor := .capture, attempts := 2 }).startRetries < 2 + 1 := by decide

/-- An absent LOST_SYNC whose action is HOLD, and one whose action is TRIP. -/
theorem test_hyps_lost_sync_stops :
    (let s (a : Int) : State := { inRun 0 with tables := { Tables.reset with
        actions := { TableSlot.builtin .actions with active := builtinActions.set 1 [a, 0, 0, 0] } } }
     (s 2).cond .lostSync = false ∧ (s 2).actionOf .lostSync = 2 ∧ (s 3).actionOf .lostSync = 3 ∧
     24 * (s 2).drive.tLast ≤ (s 2).drive.crossTime) := by decide

/-- The sixth crossing of a revolution of `us` us with the bridge off. -/
def sixth (m : MotorState) (us : Nat) (demand : Bool) : State :=
  withDrive { Drive.reset with
    motor := m, crossKnown := true, revKnown := true, revCount := 5, revTime := 12 * us, demand := demand, sM := 40000 }

/-- The sixth crossing in LOCKOUT at the shortest revolution, in COAST at 1500 and 1499 rpm, with a re-catch due at a
speed that allows it and at one that does not. -/
theorem test_hyps_sixth_crossing :
    (sixth .lockout 1 false).awake = true ∧ 12 ≤ (sixth .lockout 1 false).drive.revTime ∧
    5 ≤ (sixth .lockout 1 false).drive.revCount ∧ (sixth .coast 40000 false).drive.revTime = 12 * 40000 ∧
    60000000 / 40000 = 1500 ∧ 60000000 / 40001 = 1499 ∧ (sixth .coast 40000 false).recatchDue = false ∧
    (sixth .coast 40000 true).recatchDue = true ∧ 1500 < (sixth .coast 40000 true).handoverSpeed ∧
    (sixth .coast 1000 true).handoverSpeed ≤ 60000000 / 1000 ∧ State.reset.plan.trigger = false ∧
    (sixth .coast 40001 false).drive.demand = false := by decide

/-- Crossings with the bridge off: LOCKOUT, COAST without and with a re-catch due, STOPPED within and after 20 ms. -/
theorem test_hyps_tracking :
    (let s := withDrive { Drive.reset with motor := .lockout, crossKnown := true, revCount := 4 }
     s.awake = true ∧ s.drive.crossKnown = true ∧ s.drive.revCount < 5) ∧
    (withDrive { Drive.reset with motor := .coast, crossKnown := true }).recatchDue = false ∧
    (withDrive { Drive.reset with motor := .coast, crossKnown := true, demand := true, sM := 20833 }).recatchDue = true ∧
    asleep.awake = false ∧ (inMotor .align).drive.motor = .align ∧
    (let s := withDrive { Drive.reset with stopCross := some 239999 }
     s.awake = true ∧ s.drive.motor = .stopped ∧ s.drive.stopCross = some 239999 ∧ 239999 < 12000 * 20) ∧
    ((withDrive { Drive.reset with stopCross := some 240000 }).drive.stopCross = some 240000 ∧ 12000 * 20 ≤ 240000) := by
  decide

/-- COAST at 20 ms, a retry dwell that has run down, and a start that is due. -/
theorem test_hyps_stopping :
    12000 * 20 ≤ (withDrive { Drive.reset with motor := .coast, quiet := 240000 }).drive.quiet ∧
    State.reset.plan.trigger = false ∧ State.reset.drive.demand = false ∧
    (withDrive { Drive.reset with retry := some 0 }).drive.retry = some 0 ∧
    ready.drive.motor = .stopped ∧ ready.drive.retry = none ∧ ready.drive.demand = true ∧
    ready.runRequestNow = true ∧ ready.tripPresent = false ∧ ready.log.session = none := by decide +kernel

/-- A ramp tick in RUN and outside it, and the fast frames of each kind of motor state. -/
theorem test_hyps_ramp_and_holding :
    (inRun 0).awake = true ∧ 12000 ≤ (inRun 0).drive.rampTime ∧
    (withDrive { Drive.reset with rampTime := 12000 }).drive.motor ≠ .run ∧
    ({ inMotor .probe with pack := { Pack.reset with probe := .pulse 1 } }).pack.probe = .pulse 1 ∧
    (inRun 0).dutyMin ≤ (inRun 0).drive.duty ∧
    ((min (inRun 0).pack.budget (inRun 0).iMax : Nat) : Int) < 1 ∧
    (0 : Int) ≤ ((min (inRun 0).pack.budget (inRun 0).iMax : Nat) : Int) := by decide

/-- RUN with a band above 0 and with band 0, an absent OVERCURRENT whose action is HOLD, and a clear trip latch. -/
theorem test_hyps_bridge_off :
    (inRun 0).isPending .drive = false ∧ (inRun 0).plan.band = 0 ∧
    0 < ({ inRun 0 with plan := { Plan.reset with band := 7 } }).plan.band ∧
    (inRun 0).cause.present.length = 16 ∧ (inRun 0).cond .overcurrent = false ∧
    (inRun 0).actionOf .overcurrent = 2 ∧ (inRun 0).cause.trip = false ∧
    ({ inRun 0 with tables := { Tables.reset with
        actions := { TableSlot.builtin .actions with active := builtinActions.set 0 [3, 0, 0, 0] } } }).actionOf
      .overcurrent = 3 := by decide

/-- Within a hold, an unchanged duty is bounded by the foldback ceiling: the manual's foldback (02, worked sequence). -/
theorem test_foldback_worked :
    (let s := ({ withDrive { Drive.reset with motor := .run, duty := 3400, pLast := 120 } with
        pack := { Pack.reset with budget := 24733 } }).driveFrame 24900
     s.drive.duty = 3368 ∧ s.drive.hold = some 3368 ∧ s.drive.integ = (3368 - 120) * 65536 ∧ s.drive.lM = 24733) := by
  decide

/-! ### Witnesses: dirt sensing and planning -/

/-- A state in RUN at its ramp's goal, with a detector in a state and a peak. -/
def sensing (d : Detector) : State := { State.reset with dirt := { Dirt.reset with det := d } }

/-- An impact in its tail. -/
def inTail (tail peak duration : Nat) (cont : Bool) : Detector :=
  { state := .tail, elapsed := 20, peak := peak, duration := duration, tail := tail, cont := cont }

/-- A blanked sample and unblanked ones below and at A and L, and tails that go on, end in bin 3, in no bin and
continuous. -/
theorem test_hyps_detector :
    (withDrive { Drive.reset with sT := 1 }).drive.sT ≠ (withDrive { Drive.reset with sT := 1 }).rampGoal ∧
    State.reset.drive.sT = State.reset.rampGoal ∧ State.reset.dirt.bandBlank = none ∧
    899 < State.reset.dirt.armA ∧ State.reset.dirt.armA ≤ 900 ∧ 399 < State.reset.dirt.relL ∧
    State.reset.dirt.relL ≤ 400 ∧ 14 + 1 < State.reset.dirtField 0 ∧ State.reset.dirtField 0 ≤ 15 + 1 ∧
    State.reset.dirt.bins.length = 6 ∧
    (let s := sensing (inTail 15 1400 8 false)
     s.binPeak 3 ≤ max s.dirt.det.peak 0 ∧ s.binDuration 3 ≤ s.dirt.det.duration ∧
     ∀ c, c ∈ [4, 5, 6] → max s.dirt.det.peak 0 < s.binPeak c ∨ s.dirt.det.duration < s.binDuration c) ∧
    (let s := sensing (inTail 15 299 8 false)
     ∀ c, c ∈ [1, 2, 3, 4, 5, 6] → max s.dirt.det.peak 0 < s.binPeak c ∨ s.dirt.det.duration < s.binDuration c) ∧
    (inTail 15 1400 800 true).cont = true := by decide +kernel

/-- A window that is due. -/
theorem test_hyps_window_close :
    ({ State.reset with dirt := { Dirt.reset with winSamples := 16000, level := 3 } }).windowDue = true ∧
    ({ State.reset with dirt := { Dirt.reset with winSamples := 16000, level := 3 } }).dirt.level ≤ 3 ∧
    ({ State.reset with dirt := { Dirt.reset with bandBlank := some 0 } }).dirt.bandBlank = some 0 := by decide

/-- The scores that raise the level and the one that lets it fall (03 R57, R58). -/
theorem test_levels_follow_the_score :
    (let s (level hold : Nat) : State := { State.reset with dirt := { Dirt.reset with level := level, fallHold := hold } }
     (s 0 0).levelAfter 149 = (0, 0) ∧ (s 0 0).levelAfter 150 = (1, 0) ∧ (s 0 0).levelAfter 400 = (2, 0) ∧
     (s 0 0).levelAfter 900 = (3, 0) ∧ (s 3 1).levelAfter 700 = (3, 0) ∧ (s 3 1).levelAfter 699 = (3, 2) ∧
     (s 3 2).levelAfter 699 = (2, 0)) := by decide

/-- Inputs that change and stay, and debounced edges of both controls in AWAKE and SLEEP. -/
theorem test_hyps_operator_inputs :
    State.reset.plan.trigRaw ≠ true ∧ State.reset.plan.btnRaw ≠ true ∧ State.reset.plan.trigRaw = false ∧
    (let p : Plan := { Plan.reset with trigRaw := true, trigTime := 240000, button := true, btnRaw := true }
     let s : State := { State.reset with plan := p }
     s.live = true ∧ 12000 * 20 ≤ s.plan.trigTime ∧ s.plan.trigRaw = true ∧ s.plan.trigger = false ∧
     s.plan.button = true ∧ s.power.chordBlock = false ∧ ({ asleep with plan := p }).live = true ∧
     ({ asleep with plan := p }).power.state = .sleep) ∧
    (let s : State := { State.reset with plan := { Plan.reset with trigger := true, trigTime := 240000 } }
     s.live = true ∧ s.plan.trigRaw = false ∧ s.plan.trigger = true) ∧
    (let s : State := { State.reset with plan := { Plan.reset with btnRaw := true, btnTime := 240000, trigger := true } }
     s.live = true ∧ 12000 * 20 ≤ s.plan.btnTime ∧ s.plan.btnRaw = true ∧ s.plan.button = false ∧
     s.plan.trigger = true ∧ s.power.chordBlock = false) ∧
    (let s : State := { State.reset with plan := { Plan.reset with
        button := true, btnTime := 240000, pressTimer := some 12000000 } }
     s.live = true ∧ s.plan.btnRaw = false ∧ s.plan.button = true ∧ s.plan.pressTimer = some (12000 * 1000)) := by
  decide

/-- A press in the dock, one that wakes the part, and one with the sleep chord mark; a release that keeps the mode. -/
theorem test_hyps_dock_lock :
    (let p : Plan := { Plan.reset with trigRaw := true, trigTime := 240000, button := true }
     let docked : State := { withCharge (charging 0) with plan := p }
     docked.live = true ∧ docked.charge.presence = .present ∧ docked.plan.trigger = false ∧
     ({ asleep with plan := p }).power.state = .sleep ∧
     ({ withPower { Power.reset with sleepChord := some .button } with plan := p }).power.sleepChord ≠ none) ∧
    (let s (time : Nat) (woke : Bool) : State := { State.reset with plan := { Plan.reset with
        button := true, btnTime := 240000, pressTimer := some time, wakePress := woke } }
     (s 12000000 false).btnRelease.plan.mode = .boost ∧ (s 12000001 false).btnRelease.plan.mode = .auto ∧
     (s 12000000 true).btnRelease.plan.mode = .auto) := by decide +kernel

/-- The run request is up in one state and down in another. -/
theorem test_hyps_run_request :
    ready.formRequest.plan.runReq = true ∧ State.reset.formRequest.plan.runReq = false := by decide +kernel

/-- The exhausted latch with B at I_run_min + 1000 and just below it. -/
theorem test_hyps_latch :
    (let s (b : Nat) : State := { State.reset with pack := { Pack.reset with budget := b } }
     (s 4000).plan.trigger = false ∧ (s 4000).packField 7 + 1000 ≤ ((s 4000).pack.budget : Int) ∧
     ((s 3999).pack.budget : Int) < (s 3999).packField 7 + 1000) := by decide

/-- RUN in a band at the goal of its ramp, with the low or the recovery time at a figure. -/
def inBand (band low back : Nat) (present : Bool) : State :=
  ({ inRun 0 with plan := { Plan.reset with band := band, lowTime := low, recTime := back } }).setCond .blockage present

/-- Powers below, at and 5 % above the minimum of band 2, the dwell just missed and reached, and band 0, whose minimum is
0 (04 R76, R80 to R82). -/
theorem test_hyps_blockage :
    (inBand 2 0 0 false).drive.motor = .run ∧ (inBand 2 0 0 false).drive.sT = (inBand 2 0 0 false).rampGoal ∧
    (inBand 2 0 0 false).dirt.bandBlank = none ∧ (inBand 2 0 0 false).cond .blockage = false ∧
    (inBand 2 0 0 true).cond .blockage = true ∧ (inBand 2 0 0 false).bandField 2 3 = 25 ∧
    (inBand 0 0 0 false).bandField 0 3 = 0 ∧ 25000 * 999 / 1000000 = 24 ∧ 25000 * 1000 / 1000000 = 25 ∧
    25 * 105 / 100 = 26 ∧ (let x := (inRun 0).scanSet; x.durationUs = 1625) ∧
    798374 + 1625 < 1000 * (inBand 2 0 0 false).bandField 2 4 ∧
    1000 * (inBand 2 0 0 false).bandField 2 4 ≤ 798375 + 1625 ∧
    State.reset.drive.motor ≠ .run := by decide +kernel

/-! ### Witnesses: pack and charging -/

/-- A scan with given cells and current. -/
def scanOf (cells : List Int) (current : Int) : ScanSet :=
  { cells := cells, cellSat := List.replicate 7 false, vbus := 28000, vdock := 0, tp1 := 250, tp2 := 250, tbrg := 250,
    opt := none, iScan := current, durationUs := 1625, asleep := false }

/-- A pack monitor with a previous scan at no current. -/
def afterScan (p : ProbeState) : State :=
  { State.reset with pack := { Pack.reset with
      prev := some { i := 0, v := List.replicate 7 4000, sat := List.replicate 7 false }, probe := p } }

/-- A current change of 2000 mA and one of 1999, and a probe under way. -/
theorem test_hyps_resistance :
    (afterScan .idle).pack.prev ≠ none ∧ (afterScan .idle).pack.probe = .idle ∧
    (afterScan .idle).pack.skipEst = false ∧ (afterScan .idle).pack.skipNow = false ∧ 2000 ≤ ((scanOf [] 2000).iScan - 0).natAbs ∧
    ((scanOf [] 1999).iScan - 0).natAbs < 2000 ∧ (afterScan (.pulse 1)).pack.probe ≠ .idle := by decide

/-- A DERATE condition that is present. -/
theorem test_hyps_budget :
    (let s : State := State.reset.setCond .bridgeHot true
     s.cond .bridgeHot = true ∧ s.actionOf .bridgeHot = 1 ∧ s.derateOf .bridgeHot = 12000) := by decide

/-- Seven cells and resistances; a temperature at the edge of row 1, between two rows, and below every row. -/
theorem test_hyps_cell_and_temperature_limits :
    (scanOf (List.replicate 7 3800) 0).cells.length = 7 ∧ State.reset.pack.r.length = 7 ∧
    State.reset.packField 11 = 6 ∧ State.reset.packField (12 + 2 * 1) = 0 ∧ State.reset.packField (12 + 2 * 2) = 450 ∧
    State.reset.packField (12 + 2 * 0) = -400 ∧
    (State.reset.packBudget (scanOf (List.replicate 7 3800) 0)).pack.lTemp = 30000 ∧
    (State.reset.packBudget { scanOf (List.replicate 7 3800) 0 with tp1 := -401, tp2 := -401 }).pack.lTemp = 15000 := by
  decide +kernel

/-- The tests of the cells and of B (05 R99 to R101): the counts one short of the onset, the cells and B at both limits,
a marked cell, and the dock. -/
theorem test_hyps_pack_tests :
    (let s (n : Nat) (on : Bool) : State :=
       ({ inRun 0 with pack := { Pack.reset with emptyCount := n, exhCount := 9, shipCount := n } }).setCond .packEmpty on
     (s 1 false).charge.presence ≠ .present ∧ true ∉ (scanOf [] 0).cellSat ∧ (s 1 false).pack.emptyCount < 2 ∧
     2 ≤ (s 2 false).pack.emptyCount ∧ (s 2 false).cond .packEmpty = false ∧ (s 2 true).cond .packEmpty = true ∧
     ((minNat (scanOf (List.replicate 7 2799) 0).volts : Nat) : Int) < (s 0 false).packField 1 ∧
     (s 0 false).packField 1 ≤ ((minNat (scanOf (List.replicate 7 2800) 0).volts : Nat) : Int) ∧
     ((minNat (scanOf (List.replicate 7 2999) 0).volts : Nat) : Int) < (s 0 true).packField 1 + 200 ∧
     (s 0 true).packField 1 + 200 ≤ ((minNat (scanOf (List.replicate 7 3000) 0).volts : Nat) : Int) ∧
     (s 0 false).drive.motor = .run ∧ ((s 0 false).pack.budget : Int) < (s 0 false).packField 7 ∧
     10 ≤ (s 0 false).pack.exhCount + 1 ∧ (s 0 false).cond .budgetExhausted = false ∧
     (s 0 false).packField 2 = 3000 ∧ (s 1 false).pack.shipCount + 1 < 3 ∧ 3 ≤ (s 2 false).pack.shipCount + 1) ∧
    (withCharge (charging 0)).charge.presence = .present ∧ asleep.power.state = .sleep ∧
    (State.reset.setCond .budgetExhausted true).cond .budgetExhausted = true := by decide +kernel

/-- A PACK image that waits and Q_full to be brought within its bounds, a changeover that moves Q_full and one that does
not. -/
theorem test_hyps_pack_changeover :
    (let s (capacity : Int) : State := { State.reset with tables := { Tables.reset with
        pack := { TableSlot.builtin .pack with waiting := some (builtinPack.set 10 [capacity]) } } }
     (s 4000).tables.pack.waiting ≠ none ∧ (s 4000).packTable.pack.qFull = (s 4000).pack.qFull ∧
     (s 10000).packTable.pack.qFull ≠ (s 10000).pack.qFull) ∧
    State.reset.tables.pack.waiting = none ∧ State.reset.pack.clampDue = false ∧
    ({ State.reset with pack := { Pack.reset with clampDue := true } }).pack.clampDue = true := by decide +kernel

/-- The rest estimate with Q unknown at 200 mA, and its points rising; Q known; learning with both marks (05 R95 to
R98). -/
theorem test_hyps_rest_and_anchors :
    State.reset.pack.q = none ∧ (scanOf [] 200).iScan.natAbs ≤ 200 ∧ 200 < (scanOf [] (-201)).iScan.natAbs ∧
    true ∉ (scanOf [] 200).cellSat ∧
    (∀ j ∈ List.range 5, State.reset.packField (24 + 2 * j) < State.reset.packField (24 + 2 * (j + 1))) ∧
    (let s (soc : Nat) (on : Bool) : State := { State.reset with
        pack := { Pack.reset with q := some (144000000 * soc), reserve := on } }
     (s 15 false).formSoc.pack.reserve = true ∧ (s 16 false).formSoc.pack.reserve = false ∧
     (s 17 true).formSoc.pack.reserve = true ∧ (s 18 true).formSoc.pack.reserve = false ∧
     (s 15 false).formSoc.pack.soc ≠ 255) := by decide +kernel

/-- The ends of a pulse, of a rest and of the third rest. -/
theorem test_hyps_probe_intervals :
    (let s (p : ProbeState) (time : Nat) : State :=
       { inMotor .probe with pack := { Pack.reset with
          probe := p, probeTime := time, figures := List.replicate 3 (List.replicate 7 (some 250)) } }
     (s (.pulse 3) 1200000).pack.probe = .pulse 3 ∧ 12000 * 100 ≤ (s (.pulse 3) 1200000).pack.probeTime ∧
     (s (.rest 2) 2400000).pack.probe = .rest 2 ∧ 12000 * 200 ≤ (s (.rest 2) 2400000).pack.probeTime ∧
     (s (.rest 3) 2400000).pack.probe = .rest 3 ∧ (s (.rest 3) 2400000).drive.motor = .probe ∧
     cellMean (s (.rest 3) 2400000).pack.figures 6 = some 250 ∧ (s (.rest 3) 2400000).packField 4 ≤ 250 ∧
     250 ≤ (s (.rest 3) 2400000).packField 5 ∧ 6 < (s (.rest 3) 2400000).pack.r.length ∧
     (s (.rest 3) 2400000).meanFits 6 = true ∧ (afterScan (.rest 3)).meanFits 0 = false) := by decide

/-- Pulse scans 2000 mA and 1999 mA apart, and with a marked cell; three figures whose mean lies within and beyond the
bounds; a probe aborted by a press, a fault, the latch and a hold. -/
theorem test_hyps_probe_figures :
    (let pt (i : Int) : ScanPoint := { i := i, v := List.replicate 7 4000, sat := (List.replicate 7 false).set 1 true }
     ¬ ((pt 2000).i - (pt 0).i < 2000) ∧ (pt 1999).i - (pt 0).i < 2000 ∧ (pt 0).sat.getD 1 false = true) ∧
    (let figs (a : Int) : List (List (Option Int)) := List.replicate 3 (List.replicate 7 (some a))
     (figs 20).map (fun f => f.getD 6 none) = [some 20, some 20, some 20] ∧ State.reset.packField 4 ≤ roundDiv 60 3 ∧
     roundDiv 57 3 < State.reset.packField 4 ∧ roundDiv (1500 * 3) 3 ≤ State.reset.packField 5 ∧
     State.reset.packField 5 < roundDiv (1501 * 3) 3) ∧
    (let s : State := { inMotor .probe with
        pack := { Pack.reset with probe := .pulse 1 }, plan := { Plan.reset with trigRaw := true, trigTime := 240000 } }
     s.live = true ∧ s.plan.trigRaw = true ∧ s.plan.trigger = false ∧ 12000 * 20 ≤ s.plan.trigTime ∧
     s.drive.motor = .probe ∧ s.cause.trip = false ∧ s.cause.hold = false ∧
     (s.setCond .overcurrent true).holdNow = true ∧ (s.setCond .overcurrent true).cause.hold = false) := by
  decide +kernel

/-- The OPEN dwell at its end with each choice of the next path. -/
theorem test_hyps_open_dwell :
    (let s (p : Presence) (d : Option DockRecord) : State :=
       withCharge { Charge.reset with dwell := some 0, presence := p, dock := d }
     (s .absent none).charge.dwell = some 0 ∧ (s .absent none).charge.path = .opened ∧
     (s .absent none).power.state = .awake ∧ (s .absent none).cause.trip = false ∧
     (s .absent none).charge.presence = .absent ∧ (s .present (charging 0).dock).charge.presence = .present ∧
     (s .present (charging 0).dock).charge.dock ≠ none ∧ (s .present (charging 0).dock).drive.motor ≠ .probe ∧
     (s .undecided none).charge.presence = .undecided) := by decide

/-- The dwell's end leads to each path. -/
theorem test_dwell_chooses :
    (withCharge { Charge.reset with dwell := some 0, presence := .absent }).endDwell.charge.path = .discharge ∧
    (withCharge { Charge.reset with dwell := some 0, presence := .present, dock := (charging 0).dock }).endDwell.charge.path
      = .charge ∧
    (withCharge { Charge.reset with dwell := some 0 }).endDwell.charge.path = .opened := by decide +kernel

/-- The HELLO wait at 0 and dock silence of 1000 and 5000 ms. -/
theorem test_hyps_dock_silence :
    (let s := withCharge { charging 0 with helloWait := some 0, silence := some 60000000 }
     s.awake = true ∧ s.cause.present.length = 16 ∧ s.charge.helloWait = some 0 ∧
     s.charge.silence = some 60000000 ∧ 12000 * 1000 ≤ 60000000 ∧ 12000 * 5000 ≤ 60000000 ∧
     s.charge.path = .charge) := by decide

/-- VDOCK times just short of and at 100,000 us and 20,000 us, with presence PRESENT, ABSENT and UNDECIDED. -/
theorem test_hyps_presence :
    (let x (v : Int) : ScanSet := { scanOf [] 0 with vdock := v }
     let s (p : Presence) (t : Nat) : State :=
       withCharge { Charge.reset with presence := p, highTime := t, lowTime := t }
     (s .absent 98375).charge.presence ≠ .present ∧ 20000 ≤ (x 20000).vdock ∧ ¬ 20000 ≤ (x 19999).vdock ∧
     98375 + (x 20000).durationUs = 100000 ∧ 18375 + (x 14999).durationUs = 20000 ∧ (x 14999).vdock < 15000 ∧
     ((s .absent 98375).presenceScan (x 20000)).charge.presence = .present ∧
     ((s .absent 98374).presenceScan (x 20000)).charge.presence = .absent ∧
     ((s .present 18375).presenceScan (x 14999)).charge.presence = .absent ∧
     ((s .present 18374).presenceScan (x 14999)).charge.presence = .present ∧
     ((s .undecided 18375).presenceScan (x 14999)).charge.presence = .absent) := by decide +kernel

/-- A dock coming with a CLEAN session open and a probe running; a dock leaving with a staging image of its own, of the
chassis, and one that waits. -/
theorem test_hyps_docking :
    (let s : State := { inMotor .probe with
        log := { Log.reset with session := some (State.reset.newSession .clean) },
        pack := { Pack.reset with probe := .pulse 1 } }
     s.drive.motor = .probe ∧ s.log.session = some (State.reset.newSession .clean) ∧
     (State.reset.newSession .clean).kind = .clean) ∧
    (let s (o : Origin) : State := { withCharge (charging 0) with tables := { Tables.reset with
        charge := { TableSlot.builtin .charge with staging := [], owner := some o, waiting := some builtinCharge } } }
     (s .dock).charge.path = .charge ∧ (s .dock).tables.charge.owner = some .dock ∧
     (s .dock).becomeAbsent.tables.charge = TableSlot.builtin .charge ∧
     (s .chassis).becomeAbsent.tables.charge =
       { TableSlot.builtin .charge with staging := [], owner := some .chassis }) := by decide +kernel

/-- The five exit tests met and just not met, a phase that is done and one that is not. -/
theorem test_hyps_exit_tests :
    (let s (p below : Nat) : State := withCharge { charging p with below := below, phaseTime := 12000000 * 3600 }
     let cells (v : Int) : ScanSet := scanOf (List.replicate 7 v) 150
     (s 0 0).charge.session = some { faulted := false, phase := 0 } ∧
     (s 0 0).phaseField 0 3 = 1 ∧ (s 0 0).phaseField 0 4 = 3000 ∧ 3000 < minNat (cells 3001).volts ∧
     ¬ 3000 < minNat (cells 3000).volts ∧ (s 1 0).phaseField 1 3 = 2 ∧ (s 1 0).phaseField 1 4 = 4180 ∧
     4180 < maxNat (cells 4181).volts ∧ (s 3 0).phaseField 3 3 = 3 ∧ minNat (cells 4049).volts < 4050 ∧
     (s 2 9).phaseField 2 3 = 4 ∧ ¬ (cells 0).iScan.natAbs < 150 ∧ (scanOf [] 149).iScan.natAbs < 150 ∧
     min 10 ((s 2 9).charge.below + 1) = 10 ∧ min 10 ((s 2 8).charge.below + 1) ≠ 10 ∧
     (s 3 0).phaseField 3 2 / 2 % 2 = 1 ∧ (s 2 0).phaseField 2 2 / 2 % 2 = 0) ∧
    (let s (time : Nat) : State := { withCharge { charging 0 with phaseTime := time } with tables := { Tables.reset with
        charge := { TableSlot.builtin .charge with
          active := builtinCharge.set 1 [300, 4200, 0, 5, 60, 1800, 1, 255] } } }
     (s 0).phaseField 0 3 = 5 ∧ 12000000 * (s 720000000).phaseField 0 4 ≤ (s 720000000).charge.phaseTime ∧
     ¬ 12000000 * (s 719999999).phaseField 0 4 ≤ (s 719999999).charge.phaseTime) ∧
    (∀ p, State.reset.charge.session ≠ some { faulted := false, phase := p }) := by
  refine ⟨by decide +kernel, by decide +kernel, ?_⟩; intro p h; cases h

/-- Phase time limits that name FAULT and another phase. -/
theorem test_hyps_phase_limit :
    (let s (p : Nat) : State := withCharge { charging p with phaseTime := 12000000 * 3600 }
     (s 0).charge.session = some { faulted := false, phase := 0 } ∧ (s 0).phaseField 0 5 ≠ 0 ∧
     12000000 * (s 0).phaseField 0 5 ≤ (s 0).charge.phaseTime ∧ (s 0).charge.path = .charge ∧
     (s 0).drive.motor ≠ .probe ∧ (s 0).cause.present.length = 16 ∧ (s 0).phaseField 0 7 = 255 ∧
     (s 0).cond .chargeTimeout = false ∧ (s 0).actionOf .chargeTimeout ≠ 3 ∧
     (s 2).charge.session = some { faulted := false, phase := 2 } ∧ (s 2).phaseField 2 5 ≠ 0 ∧
     12000000 * (s 2).phaseField 2 5 ≤ (s 2).charge.phaseTime ∧ (s 2).phaseField 2 7 ≠ 255) := by decide

/-- A session within and outside the temperature window, without a stop, at t_min and t_max. -/
theorem test_hyps_cap :
    (let s (t : Int) : State := { withCharge (charging 0) with
        acq := { Acq.reset with lastSet := some { scanOf [] 0 with tp1 := t, tp2 := t } } }
     (s 0).charge.session ≠ none ∧ (s 0).cause.trip = false ∧ (s 0).cond .dockSilent = false ∧
     (s 0).chargeSetting 1 ≤ (s 0).tempLow ∧ (s 450).tempHigh ≤ (s 450).chargeSetting 3 ∧
     (s 99).tempLow < (s 99).chargeSetting 2 ∧ (s (-1)).tempLow < (s (-1)).chargeSetting 1 ∧
     (s 451).chargeSetting 3 < (s 451).tempHigh ∧ (s 0).charge.dock ≠ none) ∧
    State.reset.charge.session = none ∧ ∀ k, (withCharge (charging 0)).cond k = false := by
  refine ⟨by decide, by decide, ?_⟩; intro k; cases k <;> decide

/-- Slots held and free with candidates: the manual's kind of case (06 R127). -/
theorem test_hyps_bleed :
    (let held := [false, true, false, false, false, true, false]
     held.length = 7 ∧ held.countP id ≤ 3 ∧ 2 ≤ 20 ∧
     assignSlots [4171, 4183, 4168, 4190, 4165, 4174, 4189] 20 held = [false, true, false, true, false, false, true]) := by
  decide

/-- Balancing on just below t_max, and off at it, in a phase without the flag, off the path and with no session. -/
theorem test_hyps_balancing :
    (withCharge (charging 2)).charge.path = .charge ∧
    (withCharge (charging 2)).charge.session = some { faulted := false, phase := 2 } ∧
    (withCharge (charging 2)).phaseField 2 2 % 2 = 1 ∧ (withCharge (charging 1)).phaseField 1 2 % 2 = 0 ∧
    (let x (t : Int) : ScanSet := { scanOf [] 0 with tp1 := t }
     max (x 449).tp1 (x 449).tp2 < State.reset.chargeSetting 3 ∧
     State.reset.chargeSetting 3 ≤ max (x 450).tp1 (x 450).tp2) ∧ State.reset.charge.path ≠ .charge := by decide

/-! ### Witnesses: contact link -/

/-- A full FIFO, one with a single free place, and one with two. -/
def filled (n : Nat) (lost : Bool) : Modem :=
  { Modem.reset with fifo := List.replicate n .parity, overrun := lost }

theorem test_hyps_fifo :
    (filled 31 false).fifo.length < 32 ∧ (filled 31 false).overrun = false ∧
    (filled 30 true).fifo.length + 1 < 32 ∧ (filled 30 true).overrun = true ∧
    (filled 31 true).fifo.length + 1 = 32 ∧ 32 ≤ (filled 32 false).fifo.length ∧
    (filled 32 true).pop.fifo.length = 32 := by decide

/-- A contact answer of a period. -/
def answerOf (tag : FrameTag) (period : Nat) : Answer := { bytes := [0x5C], period := period, tag := tag }

/-- Bit-times with carrier ABSENT and PRESENT, and the runs that change carrier. -/
theorem test_hyps_bit_times :
    (let s (m : Modem) : State := withModem m
     (s Modem.reset).awake = true ∧ (s Modem.reset).modem.tx = none ∧ (s Modem.reset).modem.stepDue = false ∧
     (s Modem.reset).modem.carrier = false ∧
     (s { Modem.reset with carrier := true }).modem.stepDue = false ∧
     (s { Modem.reset with carrier := true }).modem.rx = .idle ∧
     (s { Modem.reset with carrier := true, rx := .character (List.replicate 9 .mark) }).modem.stepDue = false ∧
     6 ≤ (s { Modem.reset with toneRun := 6 }).modem.toneRun ∧
     (s { Modem.reset with toneRun := 6, buf := some (answerOf .plain 0) }).modem.buf = some (answerOf .plain 0) ∧
     (answerOf .plain 0).tag ≠ .resetOk ∧ 3 ≤ (s { Modem.reset with carrier := true, silRun := 3 }).modem.silRun ∧
     (answerOf .plain 0).period = Modem.reset.period ∧ Modem.reset.buf = none) := by decide

/-- A carrier that falls with an answer waiting begins its transmission (07 R135). -/
theorem test_waiting_answer_is_sent :
    ((withModem { Modem.reset with carrier := true, silRun := 3, buf := some (answerOf .plain 0) }).carrierDeassert).modem.tx
      = some { stage := .preamble, answer := answerOf .plain 0, time := 0 } := by decide

/-- Characters with a good and a bad stop bit and parity, a break mark, and FIFO heads of each kind. -/
theorem test_hyps_characters :
    10 ≤ (List.replicate 10 BitClass.mark).length ∧ (List.replicate 10 BitClass.mark).getD 9 .noTone = .mark ∧
    (((List.replicate 10 BitClass.mark).take 9).map fun b => if b = BitClass.space then 0 else 1).sum % 2 = 1 ∧
    ((([BitClass.space] ++ List.replicate 9 BitClass.mark).take 9).map fun b => if b = BitClass.space then 0 else 1).sum % 2 = 0 ∧
    (List.replicate 10 BitClass.space).getD 9 .noTone ≠ .mark ∧
    (let m : Modem := { Modem.reset with breakDue := true, carrier := true, bitsSince := 22 }
     m.breakDue = true ∧ m.carrier = true ∧ m.rx = .idle ∧ 22 ≤ m.bitsSince) ∧
    (let s (e : FifoEntry) : State := withModem { Modem.reset with fifo := [e] }
     (s .brk).awake = true ∧ (s .brk).frame.waiting = none ∧ (s .brk).modem.fifo = .brk :: [] ∧
     (s (.byte 0x5C 1)).modem.fifo = [.byte 0x5C 1] ∧ (s .stop).frame.coPar.state = .hunt ∧
     ({ s .stop with frame := { Frame.reset with coPar := { Parser.hunting with state := .body } } }).frame.coPar.state
       ≠ .hunt) := by decide

/-- A window that has run down and the ends of the three stages of a transmission. -/
theorem test_hyps_transmission :
    (withModem { Modem.reset with window := some (0, 0), buf := some (answerOf .plain 0) }).modem.window = some (0, 0) ∧
    (let s (g : TxStage) (tag : FrameTag) (time : Nat) : State :=
       withModem { Modem.reset with tx := some { stage := g, answer := answerOf tag 0, time := time } }
     (s .preamble .plain 5000).modem.tx = some { stage := .preamble, answer := answerOf .plain 0, time := 625 * 8 } ∧
     (s .frame .plain 6875).modem.tx = some { stage := .frame, answer := answerOf .plain 0, time := 625 * (11 * 1) } ∧
     (s .postamble .resetOk 1250).modem.tx =
       some { stage := .postamble, answer := answerOf .resetOk 0, time := 625 * 2 }) := by decide

/-- The stages of a transmission, and the first and the last bit-time of its first character (07 R137). -/
theorem test_hyps_tones :
    (let m (g : TxStage) (time : Nat) : Modem :=
       { Modem.reset with tx := some { stage := g, answer := answerOf .plain 0, time := time } }
     Modem.reset.tx = none ∧ (answerOf .plain 0).bytes.length = 1 ∧ 624 / 625 = 11 * 0 + 0 ∧ 6874 / 625 = 11 * 0 + 10 ∧
     (m .preamble 0).toneOut = .mark ∧ (m .frame 624).toneOut = .space ∧ (m .frame 6874).toneOut = .mark ∧
     characterTones 0x5C#8 =
       [.space, .space, .space, .mark, .mark, .mark, .space, .mark, .space, .space, .mark]) := by decide

/-! ### Witnesses: causes and session log -/

/-- A record of a kind in the pending set, unreported. -/
def noted (k : CauseKind) : State := (State.reset.setCond k true).occur k 3 0

/-- No record, a record of the kind, and a pending set without two of a kind. -/
theorem test_hyps_occurrences :
    State.reset.cause.records = [] ∧ (noted .packHot).cause.records.map (·.kind) = [.packHot] ∧
    ((noted .packHot).cause.records.map (·.kind)).Nodup ∧ isInfo .packHot = false ∧
    (noted .packHot).cond .packHot = true ∧ State.reset.cond .packHot = false ∧ State.reset.actionOf .packHot ≠ 3 ∧
    State.reset.cond .cellOver = false ∧ State.reset.actionOf .cellOver = 3 ∧
    State.reset.cause.present.length = 16 := by decide

/-- A ring with one free place, a full ring, and the two sequence numbers at the wrap. -/
def ringOf (n next : Nat) : State :=
  { State.reset with log := { Log.reset with ring := List.replicate n resetLostRecord, nextSeq := next } }

theorem test_hyps_ring :
    (ringOf 31 65534).log.ring.length < 32 ∧ 32 ≤ (ringOf 32 65535).log.ring.length ∧
    (ringOf 31 65534).log.nextSeq < 65535 ∧ (ringOf 32 65535).log.nextSeq = 65535 := by decide

/-- An open CLEAN session at its idle limit; windows and cursors of each kind of LOG NEXT answer. -/
theorem test_hyps_log :
    (let s : State := { State.reset with log := { Log.reset with
        session := some (State.reset.newSession .clean), idleTime := 7200000000 } }
     s.awake = true ∧ s.log.session = some (State.reset.newSession .clean) ∧
     (State.reset.newSession .clean).kind = .clean ∧ 12000 * 600000 ≤ s.log.idleTime) ∧
    (asked State.reset 0x40 [0, 1, 0, 1, 0]).ringPlace 1 ≤ (asked State.reset 0x40 [0, 1, 0, 1, 0]).ringPlace 1 ∧
    (ringOf 1 3).ringPlace 1 < (ringOf 1 3).ringPlace 2 ∧ (ringOf 1 3).isAhead 3 = true ∧
    (ringOf 1 3).isAhead 2 = false ∧ (ringOf 1 3).log.ring.find? (fun y => y.seq == 2) = none ∧
    (ringOf 1 3).isAhead 0 = false ∧ (ringOf 1 3).log.ring.find? (fun y => y.seq == 0) = some resetLostRecord ∧
    (ringOf 1 3).log.winChassis = none := by decide

/-- Both requests of the reading window from the dock. -/
theorem test_hyps_dock_reads_the_log :
    (askedByDock State.reset 0x40 [0, 1, 0, 1, 0]).takes .dock (ask 0x40 [0, 1, 0, 1, 0]) 0x40 ∧
    (askedByDock State.reset 0x41 []).takes .dock (ask 0x41 []) 0x41 ∧
    ({ State.reset with log := { Log.reset with
        winDock := some { first := 1, last := 2, cursor := 1, backward := false } } }).log.window .dock ≠ none := by
  simp only [State.takes]; and_intros <;> decide

/-! ### Witnesses: frames -/

/-- A state whose chassis parser is in a state, after bytes of a length. -/
def parsing (p : ParserState) (len : Nat) (bytes : List Byte) : State :=
  { withFrame { Frame.reset with
      startup := none, chPar := { state := p, len := len, bytes := bytes, crcHigh := (frameBytes 1 []).getD 3 0 } }
    with idleSpan := 1 }

/-- Characters in each parser state, with lengths 0, 1, 64 and 65, and the last but one and the last body byte. -/
theorem test_hyps_parser :
    State.reset.live = true ∧ State.reset.frame.chPar.state = .hunt ∧ (0x5B#8 : Byte) ≠ 0x5C#8 ∧
    State.reset.power.state = .awake ∧ (parsing .length 0 []).frame.chPar.state = .length ∧
    1 ≤ (1#8 : Byte).toNat ∧ (64#8 : Byte).toNat ≤ 64 ∧ (0#8 : Byte).toNat = 0 ∧ 64 < (65#8 : Byte).toNat ∧
    (parsing .body 2 []).frame.chPar.bytes.length + 1 < (parsing .body 2 []).frame.chPar.len ∧
    (parsing .body 2 [1]).frame.chPar.len ≤ (parsing .body 2 [1]).frame.chPar.bytes.length + 1 ∧
    (parsing .crc1 1 [1]).frame.chPar.state = .crc1 := by decide

/-- The last byte of a frame with a good and a bad CRC, in the start-up window and with the slot full. -/
theorem test_hyps_frames :
    (parsing .crc2 1 [1]).live = true ∧ (parsing .crc2 1 [1]).frame.chPar.state = .crc2 ∧
    crcBytes (BitVec.ofNat 8 1 :: [1]) = [(parsing .crc2 1 [1]).frame.chPar.crcHigh, (frameBytes 1 []).getD 4 0] ∧
    crcBytes (BitVec.ofNat 8 1 :: [1]) ≠ [(parsing .crc2 1 [1]).frame.chPar.crcHigh, (frameBytes 1 []).getD 4 0 + 1] ∧
    (parsing .crc2 1 [1]).frame.startup = none ∧ (parsing .crc2 1 [1]).frame.chSlot = none ∧
    State.reset.frame.startup ≠ none ∧ (asked State.reset 1 []).frame.chSlot ≠ none := by decide +kernel

/-- A PING frame byte by byte fills the slot (10 R168, R169). -/
theorem test_ping_frame_is_taken :
    ((frameBytes 0x01 [7]).foldl (fun s b => s.chassisCharacter b true) (withFrame { Frame.reset with startup := none })
      ).frame.chSlot = some (ask 0x01 [7]) := by decide +kernel

/-- A gap of more than 100 us in a frame and the end of the start-up window. -/
theorem test_hyps_gap :
    (let s : State := { parsing .body 2 [] with frame := { (parsing .body 2 []).frame with gapTime := 1201 } }
     s.live = true ∧ s.frame.chPar.state ≠ .hunt ∧ 12 * 100 < s.frame.gapTime) ∧
    (withFrame { Frame.reset with startup := some 0 }).frame.startup = some 0 := by decide

/-- An answer frame of one byte. -/
def lineFrame (tag : FrameTag) : TxFrame := { bytes := [0x5C], tag := tag }

/-- The end of a frame with nothing, telemetry, an answer and a second answer behind it, and the links' ways. -/
theorem test_hyps_transmitter :
    (let f : Frame := { Frame.reset with sending := some (lineFrame .plain, 120) }
     (withFrame f).live = true ∧ (withFrame f).frame.sending = some ({ bytes := [0x5C], tag := .plain }, 12 * (10 * 1)) ∧
     f.txBuf = none ∧ f.telem = [] ∧ f.waiting = none ∧
     ({ f with telem := [lineFrame .plain] }).telem = lineFrame .plain :: [] ∧
     ({ f with txBuf := some (lineFrame .plain) }).txBuf = some (lineFrame .plain)) ∧
    (let m : Modem := { Modem.reset with window := some (1, 120000) }
     m.window = some (1, 120000) ∧ m.tx = none ∧ Modem.reset.window = none ∧
     ({ Modem.reset with carrier := true }).carrier = true ∧ Modem.reset.carrier = false ∧ Modem.reset.buf = none ∧
     Modem.reset.period = (ask 1 []).period) := by decide

/-- The dock's ways for an answer: the window of its period, a carrier that stands, and neither. -/
theorem test_hyps_contact_ways :
    (let m : Modem := { Modem.reset with window := some (1, 5), carrier := true }
     m.window = some ((({ ask 1 [] with period := 1 } : Request)).period, 5) ∧ m.tx = none ∧
     (∀ left, m.window ≠ some ((ask 1 []).period, left)) ∧ m.window ≠ none ∧
     ({ m with window := none }).window = none ∧ m.carrier = true ∧ m.buf = none) ∧
    (lineFrame .plain).tag ≠ .resetOk := by
  refine ⟨⟨by decide, by decide, ?_, by decide, by decide, by decide, by decide⟩, by decide⟩
  intro left h; cases h

/-- A telemetry timer that has run out, with an idle and a busy transmitter. -/
theorem test_hyps_telemetry :
    (let f : Frame := { Frame.reset with telTimer := some 0 }
     (withFrame f).awake = true ∧ (withFrame f).frame.telTimer = some 0 ∧ f.sending = none ∧ f.txBuf = none ∧
     f.waiting = none ∧
     ({ f with sending := some (lineFrame .plain, 0) }).sending = some (lineFrame .plain, 0)) := by decide

/-! ### Witnesses: requests -/

/-- Requests that R171 refuses: an unknown kind, one not permitted to the dock, a length that does not fit, and a table
that the dock may not name. -/
theorem test_hyps_refused :
    (let s := asked State.reset 0x03 []
     s.nextRequest = some (.chassis, ask 0x03 []) ∧ s.serving = true ∧ (0x03#8 : Byte).toNat ∉ requestKinds) ∧
    (let s := askedByDock State.reset 0x50 []
     s.nextRequest = some (.dock, ask 0x50 []) ∧ s.serving = true ∧ permitted .dock 0x50 = false) ∧
    (permitted .chassis 0x20 = true ∧ lengthFits 0x20 0 = false ∧ lengthFits 0x01 62 = true) ∧
    refusal? .dock (ask 0x12 [6]) = some .notPermitted ∧ refusal? .dock (ask 0x12 [7]) = none ∧
    refusal? .chassis (ask 0x71 [0, 0, 0, 0]) = some .notPermitted ∧
    refusal? .chassis (ask 0x10 [0, 0]) = some .badLength := by decide

/-- Requests taken for service, of every kind that a statement names. -/
theorem test_hyps_takes :
    (asked State.reset 0x01 [7]).takes .chassis (ask 0x01 [7]) 0x01 ∧
    (askedByDock State.reset 0x02 []).takes .dock (ask 0x02 []) 0x02 ∧
    (asked State.reset 0x32 [1]).takes .chassis (ask 0x32 [1]) 0x32 ∧
    (asked State.reset 0x20 [1]).takes .chassis (ask 0x20 [1]) 0x20 ∧
    (asked State.reset 0x21 [2]).takes .chassis (ask 0x21 [2]) 0x21 ∧
    (asked State.reset 0x22 []).takes .chassis (ask 0x22 []) 0x22 ∧
    (asked State.reset 0x30 []).takes .chassis (ask 0x30 []) 0x30 ∧
    (asked State.reset 0x31 []).takes .chassis (ask 0x31 []) 0x31 ∧
    (asked State.reset 0x40 [0, 1, 0, 1, 0]).takes .chassis (ask 0x40 [0, 1, 0, 1, 0]) 0x40 ∧
    (asked State.reset 0x41 []).takes .chassis (ask 0x41 []) 0x41 ∧
    (asked State.reset 0x50 []).takes .chassis (ask 0x50 []) 0x50 ∧
    (asked State.reset 0x60 []).takes .chassis (ask 0x60 []) 0x60 ∧
    (asked State.reset 0x61 []).takes .chassis (ask 0x61 []) 0x61 ∧
    (askedByDock State.reset 0x62 []).takes .dock (ask 0x62 []) 0x62 ∧
    (askedByDock State.reset 0x70 [9, 196, 117, 48, 2]).takes .dock (ask 0x70 [9, 196, 117, 48, 2]) 0x70 ∧
    (askedByDock State.reset 0x71 [0, 0, 0, 0]).takes .dock (ask 0x71 [0, 0, 0, 0]) 0x71 := by
  simp only [State.takes]; and_intros <;> decide

/-- Table writes and reads: ids 9 and 10, a part of an entry, the last index and one beyond, 59 bytes and more. -/
theorem test_hyps_table_access :
    (asked State.reset 0x10 [9, 6, 0, 0, 0, 0]).takes .chassis (ask 0x10 [9, 6, 0, 0, 0, 0]) 0x10 ∧
    (asked State.reset 0x11 [0, 0, 12, 4]).takes .chassis (ask 0x11 [0, 0, 12, 4]) 0x11 ∧
    tableOfNum? 9 = some .system ∧ tableOfNum? 10 = none ∧ 3 % entrySize .system ≠ 0 ∧ 4 % entrySize .system = 0 ∧
    6 + 4 / entrySize .system ≤ tableEntries .system ∧ tableEntries .system < 7 + 4 / entrySize .system ∧
    State.reset.tables.system.waiting = none ∧ State.reset.tables.system.owner = none ∧
    12 + 4 ≤ tableEntries .channels ∧ tableEntries .channels < 13 + 4 ∧ 4 * entrySize .channels ≤ 59 ∧
    59 < 5 * entrySize .channels := by
  simp only [State.takes]; and_intros <;> decide

/-- A staging image of a table with an owner or waiting. -/
def staged (img : Image) (owner : Option Origin) (waiting : Option Image) : State :=
  { State.reset with tables := { Tables.reset with
      suction := { active := builtinSuction, staging := img, owner := owner, waiting := waiting } } }

/-- Activations and discards: held by the other origin or by a pending image, a staging image that fails its check, one
taken up at once and one that waits. -/
theorem test_hyps_activate :
    (asked State.reset 0x12 [3]).takes .chassis (ask 0x12 [3]) 0x12 ∧
    (askedByDock State.reset 0x13 [7]).takes .dock (ask 0x13 [7]) 0x13 ∧ tableOfNum? 3 = some .suction ∧
    ((staged [] (some .dock) none).tables.get .suction).owner ≠ some .chassis ∧
    ((staged [] none (some [])).tables.get .suction).waiting ≠ none ∧
    checkTable .suction ((staged (builtinSuction.set 11 [130001, 0]) none none).tables.get .suction).staging = some 11 ∧
    checkTable .suction ((staged builtinSuction none none).tables.get .suction).staging = none ∧
    State.reset.defers .suction = false ∧ State.reset.defers .channels = true ∧
    checkTable .channels builtinChannels = none := by
  simp only [State.takes]; and_intros <;> decide

/-- Ids above 9, an image that waits, tables that are not deferred after reset, and an ACTIONS image that makes a present
condition's action TRIP. -/
theorem test_hyps_tables_taken_up :
    (asked State.reset 0x12 [10]).takes .chassis (ask 0x12 [10]) 0x12 ∧ 9 < (10 : Byte).toNat ∧
    (asked State.reset 0x13 [10]).takes .chassis (ask 0x13 [10]) 0x13 ∧
    (∀ t ∈ [TableId.drive, .suction, .band, .charge, .actions, .system], State.reset.defers t = false) ∧
    (∀ t ∈ allTables, checkTable t (builtin t) = none) ∧
    ((staged [] none (some builtinSuction)).tables.get .suction).waiting = some builtinSuction ∧
    (let s : State := State.reset.setCond .packHot true
     let taken : State := { s with tables := s.tables.put .actions { TableSlot.builtin .actions with
       active := builtinActions.set 7 [3, 0, 0, 0] } }
     s.cond .packHot = true ∧ taken.actionOf .packHot = 3 ∧ s.actionOf .packHot ≠ 3) ∧
    builtinActions.getD 15 [] = 0 :: [12000, 0, 0] := by
  simp only [State.takes]; and_intros <;> decide +kernel

/-- The keep-alive window IDLE, RUNNING just before and at its limits, and EXPIRED. -/
theorem test_hyps_keepalive :
    (let s (k : KeepWindow) : State := { withFrame { Frame.reset with keep := k } with
        plan := { Plan.reset with permit := true },
        tables := { Tables.reset with system := { TableSlot.builtin .system with
          active := [[0], [100], [50], [1000], [1], [300], [0]] } } }
     (s .idle).frame.keep = .idle ∧ 599999 < 12000 * (s .idle).systemField 2 ∧
     12000 * (s .idle).systemField 2 ≤ 600000 ∧
     (s (.running false 599999)).frame.keep = .running false 599999 ∧ (s .expired).frame.keep = .expired ∧
     12000 * (s (.running true 12000000)).systemField 3 ≤ 12000000 ∧ (s (.running true 12000000)).awake = true ∧
     (s (.running true 12000000)).keepActive = true ∧
     (s (.running true 12000000)).cause.present.length = 16) := by decide

/-- CAUSE without a record, and with two unreported ones of different priority; CLEAR TRIP with and without a present
condition whose action is TRIP. -/
theorem test_hyps_cause :
    (∀ r, r ∈ State.reset.cause.records → r.reported = true) ∧
    (let s := ((State.reset.setCond .packHot true).occur .lostSync 0 0).occur .packHot 3 0
     s.cause.records.map (·.kind) = [.lostSync, .packHot] ∧ (s.cause.records.map (·.kind)).Nodup ∧
     s.priorityOf .lostSync < s.priorityOf .packHot ∧ (∀ r, r ∈ s.cause.records → r.reported = false) ∧
     s.cond .packHot = true ∧ s.cond .lostSync = false) ∧
    ((State.reset.setCond .cellOver true).cond .cellOver = true ∧
      (State.reset.setCond .cellOver true).actionOf .cellOver = 3) := by decide

/-- No condition is present after reset. -/
theorem test_hyps_no_condition : ∀ k, State.reset.cond k = false := by intro k; cases k <;> decide

/-- A part in which PROBE is accepted, and ones in which it is refused BUSY and STATE. -/
theorem test_hyps_probe :
    (let s : State := asked { ready with
        drive := Drive.reset, plan := Plan.reset, acq := { Acq.reset with lastSet := some (scanOf [] 0) } } 0x50 []
     s.serving = true ∧ s.pack.probe = .idle ∧ s.drive.motor = .stopped ∧ s.charge.path = .discharge ∧
     s.charge.presence ≠ .present ∧ s.cause.trip = false ∧ s.acq.lastSet ≠ none) ∧
    State.reset.charge.path ≠ .discharge ∧
    ({ State.reset with pack := { Pack.reset with probe := .rest 3 } }).pack.probe ≠ .idle := by decide

/-- SLEEP refused and accepted, the idle timer at its timeout, and settle at its end. -/
theorem test_hyps_sleep :
    (withCharge (charging 0)).charge.path = .charge ∧ State.reset.charge.path ≠ .charge ∧
    State.reset.charge.presence ≠ .present ∧ State.reset.drive.motor = .stopped ∧
    State.reset.power.resetPending = false ∧
    (let s := withPower { Power.reset with idleTimer := some 3600000000 }
     s.awake = true ∧ s.systemField 5 ≠ 0 ∧ 12000000 * s.systemField 5 ≤ 3600000000) ∧
    (let s := withPower { Power.reset with settle := some 600000, settleScan := true }
     s.awake = true ∧ s.power.settle = some (12000 * 50) ∧ s.power.settleScan = true) := by decide

/-- SLEEP with an open CLEAN session; a part asleep that wakes to a chosen path, a keep-alive window and an idle timer. -/
theorem test_hyps_wake :
    (let s : State := { asleep with
        plan := { Plan.reset with permit := true },
        charge := { Charge.reset with presence := .absent },
        tables := { Tables.reset with system := { TableSlot.builtin .system with
          active := [[0], [100], [50], [1000], [1], [300], [0]] } } }
     s.power.state = .sleep ∧ s.live = true ∧ s.charge.path = .opened ∧ s.charge.dwell = none ∧
     s.charge.presence = .absent ∧ s.cause.trip = false ∧ s.plan.permit = true ∧ s.systemField 4 = 1 ∧
     s.frame.keep = .idle ∧ s.drive.motor = .stopped ∧ s.drive.demand = false ∧ s.systemField 5 ≠ 0 ∧
     s.power.shipPending = false ∧ s.power.idleTimer = none ∧ s.frame.chPar.state = .hunt ∧
     s.wake.settled.charge.path = .discharge ∧ s.wake.settled.frame.keep = .running true 0 ∧
     s.wake.settled.power.idleTimer = some 0) ∧
    (let s : State := { State.reset with log := { Log.reset with session := some (State.reset.newSession .clean) } }
     s.power.resetPending = false ∧ s.log.session = some (State.reset.newSession .clean) ∧
     s.enterSleep.settled.log.session = none) := by decide +kernel

/-- The answers that bring the soft reset and SHIP, at the end of their frames. -/
theorem test_hyps_ship_and_reset :
    (withFrame { Frame.reset with sending := some (lineFrame .resetOk, 120) }).frame.sending =
      some ({ bytes := [0x5C], tag := .resetOk }, 12 * (10 * 1)) ∧
    (let s : State := { withFrame { Frame.reset with sending := some (lineFrame .shipOk, 120) } with
        power := { Power.reset with shipPending := true, contactMv := 20000 } }
     s.live = true ∧ s.power.shipPending = true ∧ s.power.contactMv ≤ 20000 ∧
     s.frame.sending = some ({ bytes := [0x5C], tag := .shipOk }, 120)) := by decide

/-- Polls far from and within the output figure, with runs at 2000 ms, on and off the path CHARGE. -/
theorem test_hyps_poll :
    (let s (m : MismatchRun) : State := withCharge { charging 0 with mismatch := m }
     (s .none).charge.presence = .present ∧ 300 < (((301 : Nat) : Int) + (s .none).latestScanCurrent).natAbs ∧
     ¬ 300 < (((300 : Nat) : Int) + (s .none).latestScanCurrent).natAbs ∧
     (s .none).cond .chargeMismatch = false ∧ (s (.over 24000000)).charge.mismatch = .over (12000 * 2000) ∧
     ((s (.within 24000000)).setCond .chargeMismatch true).cond .chargeMismatch = true ∧
     ((s (.within 24000000)).setCond .chargeMismatch true).charge.mismatch = .within (12000 * 2000) ∧
     (s .none).charge.path = .charge ∧ State.reset.charge.path ≠ .charge) := by decide

/-- D at a POLL below, at and above the effective ceiling (06 R125): 4200 mV is in force. -/
theorem test_demand_at_a_poll :
    (let s (high : Nat) : State := { withCharge { charging 0 with demand := 100 } with
        pack := { Pack.reset with v := [high] } }
     (s 4200).demandAfterPoll = 50 ∧ (s 4199).demandAfterPoll = 100 ∧ (s 4186).demandAfterPoll = 100 ∧
     (s 4185).demandAfterPoll = 150) := by decide

/-! ### Witnesses: what follows an event, and changeovers -/

/-- Pending images for CHANNELS, with the high cause of channel 6 removed, and for SCAN, without channels 3, 14 and 15;
the flags and side conditions they act on (01 R11, R14). -/
def changing : State :=
  { State.reset with
    acq := { Acq.reset with
      highOn := (List.replicate 16 false).set 6 true, sat := (List.replicate 16 false).set 15 true,
      lowCount := List.replicate 16 1 },
    tables := { Tables.reset with
      channels := { TableSlot.builtin .channels with
        waiting := some (builtinChannels.set 6 [0, 1280, 0, -32768, 4250, 0, 0, 3]) },
      scan := { TableSlot.builtin .scan with
        waiting := some ((List.range 17).map fun k => [if k = 0 then 10 else if k ≤ 10 then (k : Int) + 3 else 0]) } } }

theorem test_hyps_scan_changeovers :
    changing.cause.present.length = 16 ∧ changing.acq.sat.length = 16 ∧ changing.acq.lowCount.length = 16 ∧
    changing.acq.highCount.length = 16 ∧ changing.acq.lowOn.length = 16 ∧ changing.acq.highOn.length = 16 ∧
    (∃ img, changing.tables.channels.waiting = some img) ∧
    (∃ img, changing.tables.scan.waiting = some img ∧ (1 ≤ 1 ∧ 1 ≤ fieldNat img 0 0 ∧ fieldNat img 1 0 = 4) ∧
      fieldNat img 10 0 = 13 ∧ (scanChannels img).contains 3 = false ∧ (scanChannels img).contains 15 = false) ∧
    changing.sideOn 6 true = true ∧ changing.takeUpChannels.sideOn 6 true = false ∧
    changing.takeUpChannels.sideCount 15 false = 0 ∧ changing.takeUpScan.acq.sat.getD 15 false = false ∧
    changing.takeUpScan.sideCount 13 false = 1 ∧ changing.takeUpScan.sideCount 3 false = 0 ∧
    State.reset.tables.channels.waiting = none ∧ State.reset.tables.scan.waiting = none := by
  refine ⟨rfl, rfl, rfl, rfl, rfl, rfl, ⟨_, rfl⟩, ⟨_, rfl, ?_⟩, ?_⟩ <;> decide +kernel

/-- Bands upward at the edges and over several, and downward at the hysteresis (04 R78); a move and none. -/
theorem test_hyps_bands :
    (let s (b : Nat) : State := { State.reset with plan := { Plan.reset with band := b } }
     (s 7).plan.band ≤ 7 ∧ (s 0).bandField 0 0 = 20000 ∧ (s 0).bandOf 19999 = 0 ∧ (s 0).bandOf 20000 = 1 ∧
     (s 0).bandOf 130000 = 7 ∧ (s 6).bandOf 109999 = 6 ∧ (s 6).bandOf 110000 = 7 ∧ (s 7).bandOf 109000 = 7 ∧
     (s 7).bandOf 108999 = 6 ∧ (s 2).bandOf 39000 = 2 ∧ (s 2).bandOf 38999 = 1 ∧ (s 2).bandOf 0 = 0 ∧
     (s 2).plan.band = 2 ∧ (s 2).plan.band ≠ 1) := by decide +kernel

/-- A failed attempt that begins a dwell, STOPPED within it, and a re-catch that is due but for the wait (02 R29, R36). -/
theorem test_hyps_retry_wait :
    (let s := withDrive { Drive.reset with motor := .capture, demand := true, sM := 20833 }
     s.failAttempt.drive.retry = some 2400000 ∧ s.drive.retry = none ∧ s.failAttempt.drive.waitStop = true ∧
     s.failAttempt.enterStopped.drive.waitStop = true ∧ s.failAttempt.enterStopped.enterCoast.drive.waitStop = true) ∧
    (let c (wait : Bool) : State :=
       withDrive { Drive.reset with motor := .coast, demand := true, sM := 20833, waitStop := wait }
     (c false).recatchDue = true ∧ (c true).recatchDue = false ∧ (c false).handoverSpeed = 20833) := by
  decide +kernel

/-- The run demand rising and falling in each motor state that a rule names, and staying (02 R18). -/
theorem test_hyps_run_demand :
    (let s (m : MotorState) (up demand : Bool) : State := { ready with
        drive := { Drive.reset with motor := m, demand := demand, attempts := 2, sM := 20833 },
        plan := { ready.plan with runReq := up, sReq := 1, trigger := up } }
     (s .stopped true false).plan.runReq = true ∧ 0 < (s .stopped true false).plan.sReq ∧
     (s .stopped true false).runRequestNow = true ∧ (s .stopped true false).tripPresent = false ∧
     (s .coast true false).drive.motor = .coast ∧ (s .coast true false).handoverSpeed ≤ (s .coast true false).drive.sM ∧
     (s .probe true false).drive.motor = .probe ∧ (s .probe true false).drive.demand = false ∧
     (s .run false true).plan.runReq = false ∧ (s .run false true).drive.demand = true ∧
     (s .align false true).drive.motor = .align ∧ (s .lockout false true).drive.motor = .lockout ∧
     (s .run false true).plan.trigger = false ∧ (s .run false true).settled.drive.motor = .coast ∧
     (s .run true true).formDemand.drive = (s .run true true).drive) := by decide +kernel

/-- A crossing seen in STOPPED ages in SLEEP too, so that one after a wake is no second one within 20 ms (02 R25). -/
theorem test_crossing_ages_in_sleep :
    (({ asleep with drive := { Drive.reset with stopCross := some 0 } }).advance 240000).drive.stopCross =
      some 240000 := by decide

/-- A frame in a probe's rest; scans in a rest, in a pulse, begun before it, and without a probe (02 R42, 05 R103). -/
theorem test_hyps_probe_scans :
    ({ inMotor .probe with pack := { Pack.reset with probe := .rest 1 } }).drive.motor = .probe ∧
    (afterScan (.rest 1)).pack.probe = .rest 1 ∧ (afterScan (.pulse 3)).pack.probe = .pulse 3 ∧
    (afterScan (.pulse 3)).acq.scanInPulse = true ∧ (afterScan .idle).pack.probe = .idle ∧
    ({ afterScan (.pulse 3) with acq := { Acq.reset with scanInPulse := false } }).acq.scanInPulse = false := by decide

/-- The opening of a session whose phase 0 is no done phase, and closes of its record: undocked, trip, link lost. -/
theorem test_hyps_charge_session :
    State.reset.phaseField 0 2 / 2 % 2 = 0 ∧ State.reset.drive.demand = false ∧
    (let s : State := { withCharge { charging 0 with silence := some 60000000 } with
        log := { Log.reset with session := some (State.reset.newSession .charge) } }
     s.charge.path = .charge ∧ s.log.session = some (State.reset.newSession .charge) ∧
     (State.reset.newSession .charge).kind = .charge ∧ s.cause.trip = false ∧ s.awake = true ∧
     s.charge.silence = some 60000000 ∧ 12000 * 5000 ≤ 60000000) := by decide

/-- A RESET answer to the dock that waits when carrier rises, its window closes or carrier falls in another period, and
one that nothing can take (07 R135, R136; 11 R188). -/
theorem test_hyps_reset_answers :
    (let m : Modem := { Modem.reset with buf := some (answerOf .resetOk 0), period := 1 }
     m.buf = some (answerOf .resetOk 0) ∧ (answerOf .resetOk 0).tag = .resetOk ∧ m.carrier = false ∧
     6 ≤ ({ m with toneRun := 6 }).toneRun ∧ ({ m with window := some (0, 0) }).window = some (0, 0) ∧
     3 ≤ ({ m with carrier := true, silRun := 3 }).silRun ∧ (answerOf .resetOk 0).period ≠ m.period ∧
     ({ m with breakDue := true }).breakDue = true) ∧
    (lineFrame .resetOk).tag = .resetOk := by decide

/-- A state whose contact parser is in a state, after bytes of a length. -/
def dockParsing (p : ParserState) (len : Nat) (bytes : List Byte) : State :=
  withFrame { Frame.reset with
    startup := none, coPar := { state := p, len := len, bytes := bytes, crcHigh := (frameBytes 1 []).getD 3 0 } }

/-- Bytes at the contact parser in each state, a good and a bad CRC, the start-up window, a full slot, and a dock record
held and none. -/
theorem test_hyps_contact_parser :
    State.reset.frame.coPar.state = .hunt ∧ (dockParsing .length 0 []).frame.coPar.state = .length ∧
    (dockParsing .body 2 [1]).frame.coPar.state = .body ∧ (dockParsing .crc1 1 [1]).frame.coPar.state = .crc1 ∧
    (let s := dockParsing .crc2 1 [1]
     s.frame.coPar.state = .crc2 ∧ s.frame.startup = none ∧ s.frame.coSlot = none ∧ s.charge.dock = none ∧
     crcBytes (BitVec.ofNat 8 1 :: [1]) = [s.frame.coPar.crcHigh, (frameBytes 1 []).getD 4 0] ∧
     crcBytes (BitVec.ofNat 8 1 :: [1]) ≠ [s.frame.coPar.crcHigh, (frameBytes 1 []).getD 4 0 + 1] ∧
     ({ s with charge := charging 0 }).charge.dock ≠ none ∧ State.reset.frame.startup ≠ none ∧
     ({ s with frame := { s.frame with coSlot := some (ask 1 []) } }).frame.coSlot ≠ none) := by decide +kernel

/-- Entries of each kind of field, at the first and the last index, signed values at both ends, and those read back. -/
theorem test_hyps_entries :
    ([0x80, 0, 0, 0, 0x7F, 255, 255, 255] : List Byte).length = 2 * entrySize .drive ∧
    decodeEntries .drive 15 2 [0x80, 0, 0, 0, 0x7F, 255, 255, 255] = [[-2147483648], [2147483647]] ∧
    15 + 2 ≤ builtinDrive.length ∧ builtinCharge.length = 9 ∧ builtinChannels.length = 16 ∧
    decodeEntries .charge 0 1 [5, 0x80, 0, 0x7F, 255, 0, 1, 0, 50, 7, 8, 9] = [[5, -32768, 32767, 1, 50, 7, 8, 9]] ∧
    decodeEntries .charge 1 1 [1, 44, 16, 104, 0, 1, 11, 184, 7, 8, 1, 255] = [[300, 4200, 0, 1, 3000, 1800, 1, 255]] ∧
    encodeEntries .drive (writeEntries builtinDrive 15 [[-2147483648], [2147483647]]) 15 2 =
      [0x80, 0, 0, 0, 0x7F, 255, 255, 255] := by decide +kernel

/-- Tables that defer and do not, with a session and with motor states at both ends, and DRIVE images that wait. -/
theorem test_hyps_deferral :
    (inMotor .align).defers .drive = true ∧ (inMotor .probe).defers .drive = true ∧
    (inMotor .lockout).defers .drive = false ∧ (inMotor .coast).defers .drive = false ∧
    (withCharge (charging 0)).defers .charge = true ∧ State.reset.defers .charge = false ∧
    State.reset.tables.drive.waiting = none ∧
    (let s : State := { inRun 0 with tables := { Tables.reset with
        drive := { TableSlot.builtin .drive with waiting := some (builtinDrive.set 10 [100]) } } }
     s.tables.drive.waiting = some (builtinDrive.set 10 [100]) ∧ s.takeUpDrive.drive.duty = 100) := by decide +kernel

/-- The first entry that fails, of each table: ranges at and beyond their ends, orders, and SCAN's count, slot and missing
channel. -/
theorem test_hyps_table_checks :
    checkTable .channels (builtinChannels.set 15 [0, 1280, 0, 5, 4, 0, 6, 3]) = some 15 ∧
    checkTable .channels (builtinChannels.set 15 [4095, 1280, 0, 5, 5, 0, 14, 15]) = none ∧
    checkTable .scan (builtinScan.set 0 [0]) = some 0 ∧ checkTable .scan (builtinScan.set 0 [17]) = some 0 ∧
    checkTable .scan (builtinScan.set 13 [16]) = some 13 ∧ checkTable .scan (builtinScan.set 2 [3]) = some 4 ∧
    checkTable .scan (builtinScan.set 11 [15]) = some 13 ∧ checkTable .scan (builtinScan.set 1 [15]) = none ∧
    checkTable .drive (builtinDrive.set 10 [4000]) = some 11 ∧ checkTable .suction (builtinSuction.set 0 [130001, 0]) = some 0 ∧
    checkTable .band (builtinBand.set 7 [129999, 1650, 700, 210, 500]) = some 7 ∧
    checkTable .band (builtinBand.set 1 [20000, 1000, 450, 8, 1000]) = some 1 ∧
    checkTable .dirt (builtinDirt.set 1 [205]) = some 1 ∧ checkTable .dirt (builtinDirt.set 9 [900]) = some 9 ∧
    checkTable .pack (builtinPack.set 35 [99]) = some 35 ∧ checkTable .pack (builtinPack.set 11 [7]) = some 11 ∧
    checkTable .charge (builtinCharge.set 0 [9, 0, 100, 450, 20, 0, 0, 0]) = some 0 ∧
    checkTable .actions (builtinActions.set 15 [4, 0, 0, 0]) = some 15 ∧
    checkTable .system (builtinSystem.set 2 [1000]) = some 2 ∧ checkTable .system (builtinSystem.set 3 [49]) = some 3 ∧
    checkTable .system (builtinSystem.set 5 [29]) = some 5 := by decide +kernel

/-- The keep-alive check active with the window IDLE and RUNNING, and not active with the window RUNNING. -/
theorem test_hyps_keep_check :
    (let s (k : KeepWindow) (permit : Bool) : State := { withFrame { Frame.reset with keep := k } with
        plan := { Plan.reset with permit := permit },
        tables := { Tables.reset with system := { TableSlot.builtin .system with
          active := [[0], [100], [50], [1000], [1], [300], [0]] } } }
     (s .idle true).keepActive = true ∧ (s .idle true).frame.keep = .idle ∧
     (s (.running false 5) true).keepActive = true ∧ (s (.running false 5) true).frame.keep ≠ .idle ∧
     (s .expired false).keepActive = false ∧ (s .expired false).frame.keep ≠ .idle ∧
     (s .idle false).keepActive = false ∧ (s .expired false).cause.present.length = 16) := by decide

/-- The attention line for a condition, an info kind with the flag off and on, a reported record, and in SHIP. -/
theorem test_attention_line :
    (let s (on flag : Int) (k : CauseKind) : State := { State.reset.occur k 0 0 with tables := { Tables.reset with
        actions := { TableSlot.builtin .actions with active := List.replicate 16 [0, 0, 0, on] },
        system := { TableSlot.builtin .system with active := builtinSystem.set 6 [flag] } } }
     (s 1 0 .budgetExhausted).attentionLow = true ∧ (s 0 1 .budgetExhausted).attentionLow = false ∧
     (s 0 1 .modeChanged).attentionLow = true ∧ (s 1 0 .modeChanged).attentionLow = false ∧
     ({ s 1 1 .packHot with power := { Power.reset with state := .ship } }).attentionLow = false) := by decide

/-- Sequence numbers 32,767 and 32,768 behind N, and N itself, within and over the wrap (09 R164). -/
theorem test_hyps_sequence_order :
    (let s := ringOf 0
     (1 ≤ 65535 ∧ 65535 ≤ 65535 ∧ 1 ≤ (s 1).log.nextSeq ∧ (s 65535).log.nextSeq ≤ 65535) ∧
     (s 40000).isAhead 40000 = true ∧ (s 40000).isAhead 7233 = false ∧ (s 40000).isAhead 7232 = true ∧
     (s 40000).ringPlace 7233 = 0 ∧ (s 40000).ringPlace 7232 = 65534 ∧ (s 40000).ringPlace 39999 = 32766 ∧
     (s 1).isAhead 65535 = false ∧ (s 1).ringPlace 65535 = 32766 ∧ (s 1).isAhead 32769 = false ∧
     (s 1).isAhead 32768 = true) := by decide

/-- The dock's ceiling below, at and above the phase's: a seventh of its maximum voltage, floored (06 R115). -/
theorem test_hyps_effective_ceiling :
    (let s (mv : Nat) : State := withCharge { charging 0 with
        dock := some { maxCurrent := 2500, maxVoltage := mv, revision := 2 } }
     (s 1).charge.session = some { faulted := false, phase := 0 } ∧ (s 1).phaseField 0 1 = 4200 ∧
     (s 29399).effectiveCeiling 0 = 4199 ∧ (s 29400).effectiveCeiling 0 = 4200 ∧
     (s 30000).effectiveCeiling 0 = 4200) := by decide

/-- Timers of the contact transmitter, the chassis transmitter, a re-catch and a rest one tick or count short of their
ends, and none running. -/
theorem test_hyps_timers_not_due_links :
    (let x (g : TxStage) (time : Nat) : ContactTx := { stage := g, answer := answerOf .plain 0, time := time }
     (x .preamble 4999).time < 625 * 8 ∧ (x .frame 6874).time < 625 * (11 * (x .frame 0).answer.bytes.length) ∧
     (x .postamble 1249).time < 625 * 2 ∧ (x .frame 0).stage ≠ .postamble ∧ Modem.reset.tx = none) ∧
    (∀ period, ({ Modem.reset with window := some (0, 1) }).window ≠ some (period, 0)) ∧
    (∀ period, Modem.reset.window ≠ some (period, 0)) ∧
    119 < 12 * (10 * (lineFrame .plain).bytes.length) ∧ Frame.reset.sending = none ∧
    (let d : Drive := { Drive.reset with motor := .capture, nextComm := some 1 }
     d.capComms = 0 ∧ d.nextComm ≠ some 0) ∧
    (let p : Pack := { Pack.reset with probe := .rest 1, probeTime := 2399999 }
     p.probe = .rest 1 ∧ p.probeTime < 12000 * 200 ∧ ¬ p.probeTime < 12000 * 100) ∧
    (withAcq { Acq.reset with slotFrames := 9 }).acq.slotFrames < 10 ∧ State.reset.runningPhase = none ∧
    State.reset.drive.motor ≠ .run := by
  refine ⟨by decide, ?_, ?_, by decide, by decide, by decide, by decide, by decide, by decide, by decide⟩
  · intro p h; simp at h
  · intro p h; cases h

/-- Paths whose dwell has ended with each choice, the requests and decisions that make it, and STOPPED entry in the dock
(06 R110, R112). -/
theorem test_hyps_path_chosen_again :
    (let s (p : Presence) (d : Option DockRecord) (trip : Bool) : State :=
       { withCharge { Charge.reset with presence := p, dwell := none, dock := d } with
         cause := { Causes.reset with trip := trip } }
     (s .absent none false).charge.path = .opened ∧ (s .absent none false).charge.dwell = none ∧
     (s .absent none false).power.state = .awake ∧ (s .absent none false).settled.charge.path = .discharge ∧
     (s .present (charging 0).dock false).settled.charge.path = .charge ∧
     (s .present none false).settled.charge.path = .opened ∧ (s .undecided none false).choosePath.charge.path = .opened ∧
     (s .absent none true).settled.charge.path = .opened ∧ (s .present none false).drive.motor ≠ .probe ∧
     ((s .undecided none false).presenceScan { scanOf [] 0 with vdock := 14999, asleep := true }).charge.presence =
       .absent) ∧
    (let s (m : MotorState) : State := { inMotor m with
        charge := { Charge.reset with path := .discharge, presence := .present } }
     (s .coast).charge.path = .discharge ∧ (s .coast).restStopped.charge.path = .opened ∧
     12000 * 20 ≤ ({ (s .coast).drive with quiet := 240000 }).quiet ∧
     (withCharge { Charge.reset with path := .discharge }).charge.presence ≠ .present) := by decide +kernel

theorem test_hyps_path_requests :
    (let s : State := withCharge { Charge.reset with presence := .present, dwell := none }
     (askedByDock s 0x70 [9, 196, 117, 48, 2]).takes .dock (ask 0x70 [9, 196, 117, 48, 2]) 0x70 ∧
     (asked s 0x31 []).takes .chassis (ask 0x31 []) 0x31 ∧ s.charge.path = .opened ∧ s.charge.dwell = none) ∧
    ∀ k, (asked State.reset 0x31 []).cond k = true → (asked State.reset 0x31 []).actionOf k ≠ 3 := by
  refine ⟨by simp only [State.takes]; and_intros <;> decide, fun k h => ?_⟩
  revert h; cases k <;> decide

/-- The idle timer idle, running and starting, a press and a frame that restart it, and STOPPED entry (11 R184). -/
theorem test_hyps_idle_timer :
    (let s (t : Option Nat) (p : Presence) : State := { withCharge { Charge.reset with presence := p } with
        power := { Power.reset with idleTimer := t } }
     (s none .absent).drive.motor = .stopped ∧ (s none .absent).systemField 5 ≠ 0 ∧
     (s none .absent).power.shipPending = false ∧ (s none .absent).formIdle.power.idleTimer = some 0 ∧
     (s (some 7) .absent).settled.power.idleTimer = some 7 ∧ (s (some 7) .undecided).settled.power.idleTimer = none ∧
     ({ s (some 7) .absent with plan := { Plan.reset with trigRaw := true, trigTime := 240000 } }
       ).trigPress.power.idleTimer = some 0 ∧
     ({ s (some 7) .absent with plan := { Plan.reset with btnRaw := true, btnTime := 240000 } }
       ).btnPress.power.idleTimer = some 0 ∧
     ({ s none .absent with drive := { Drive.reset with motor := .coast, quiet := 240000 } }
       ).coastStop.power.idleTimer = some 0) := by decide +kernel

/-- A contact answer of the carrier's period that waits is replaced and counted (07 R136). -/
theorem test_hyps_answer_replaced :
    (let m : Modem := { Modem.reset with carrier := true, buf := some (answerOf .plain 0) }
     m.window = none ∧ m.carrier = true ∧ m.period = (ask 1 []).period ∧ m.buf = some (answerOf .plain 0) ∧
     ((withModem m).handDock (answerOf .plain 0)).modem.replyMissed = 1) := by decide

/-- SoC and the reserve state of a charge count, kept over a chord reset (05 R108). -/
theorem test_hyps_soc_kept :
    (let s : State := ({ State.reset with pack := { Pack.reset with q := some 1440000000 } }).formSoc
     s.pack.soc = 10 ∧ s.pack.reserve = true ∧ s.pack.soc = socOf s.pack.q s.pack.qFull ∧
     (s.takeReset .chord).pack.soc = 10 ∧ (s.takeReset .chord).pack.reserve = true) := by decide +kernel

/-! ### Witnesses: power and invariants -/

/-- The reset line's edges, its filter at 20 us and 5 us, the chord at its limit, and SHIP with contact voltage. -/
theorem test_hyps_resets :
    State.reset.power.lineHigh = true ∧ State.reset.live = true ∧ State.reset.power.lineLow = none ∧
    (withPower { Power.reset with lineHigh := false }).power.held = false ∧
    (withPower { Power.reset with lineHigh := false, held := true }).power.held = true ∧
    12 * 5 ≤ (withPower { Power.reset with lineLow := some 0, lineBack := 60 }).power.lineBack ∧
    (let s := withPower { Power.reset with lineHigh := false, lineLow := some 240 }
     s.live = true ∧ s.power.lineHigh = false ∧ s.power.lineLow = some (12 * 20)) ∧
    (let s := withPower { Power.reset with chord := some (120000000, 10000) }
     s.live = true ∧ s.power.chord = some (12000 * 10000, 10000)) ∧
    (withPower { Power.reset with state := .ship }).power.state = .ship ∧ State.reset.power.state ≠ .ship := by decide

/-- A soft reset over an open CHARGE session and over none, and the same with a full ring. -/
theorem test_hyps_resets_over_the_log :
    (let s (ring : Nat) (k : SessionKind) : State := { ringOf ring 65535 with log := { (ringOf ring 65535).log with
        session := some (State.reset.newSession k) } }
     ((s 31 .charge).log.session.map (·.kind) = some .charge ∧ (s 31 .charge).log.ring.length < 32) ∧
     ¬ (s 32 .charge).log.ring.length < 32 ∧ ((s 32 .charge).takeReset .soft).log.nextSeq = 1 ∧
     (s 31 .clean).log.retained = false ∧ (s 31 .clean).log.session.map (·.kind) ≠ some .charge ∧
     ((s 31 .clean).takeReset .soft).log.ring.length = 31) ∧
    ResetKind.soft ≠ .powerOn := by decide +kernel

/-- A state in which a start is due meets the first invariant, and its step goes on. -/
theorem test_hyps_interlock :
    State.Interlocked { ready with pending := [.bandBlank] } ∧
    step { ready with pending := [.bandBlank] } = .next ready :=
  ⟨⟨by decide, by decide, by decide, by decide⟩, rfl⟩

/-- A charging state meets the second invariant. -/
theorem test_hyps_charge_bounds :
    State.ChargeBounded { withCharge (charging 0) with pending := [.bandBlank] } ∧
    step { withCharge (charging 0) with pending := [.bandBlank] } = .next (withCharge (charging 0)) :=
  ⟨⟨by decide, by decide, by decide, by decide⟩, rfl⟩

/-- A state with a full FIFO that lost an entry meets the third invariant. -/
theorem test_hyps_buffers :
    State.BuffersBounded { withModem (filled 32 true) with pending := [.bandBlank] } ∧
    step { withModem (filled 32 true) with pending := [.bandBlank] } = .next (withModem (filled 32 true)) :=
  ⟨⟨by decide, by decide, by decide, by decide, (fun r h => nomatch h), by decide, by decide⟩, rfl⟩

/-- A state of level 3 meets the fourth invariant. -/
theorem test_hyps_shape :
    State.Shaped { State.reset with dirt := { Dirt.reset with level := 3 }, pending := [.bandBlank] } ∧
    step { State.reset with dirt := { Dirt.reset with level := 3 }, pending := [.bandBlank] } =
      .next { State.reset with dirt := { Dirt.reset with level := 3 } } :=
  ⟨⟨by decide, by decide, by decide, by decide, by decide, by decide, by decide, by decide⟩, rfl⟩

end Sys2Proof.Tests
end

/-! Rounding of an exact quotient (00 section 4.2) and the conversion of a raw sample (01 R4). -/

namespace Sys2Proof.Machine

/-- The signs drop out of a rounded quotient times its divisor: it has the sign of the dividend, and its size is the
rounded quotient of the two sizes times the size of the divisor. -/
theorem mul_roundDiv (n d : Int) :
    d * roundDiv n d =
      if n < 0 then -((d.natAbs * ((2 * n.natAbs + d.natAbs) / (2 * d.natAbs)) : Nat) : Int)
      else ((d.natAbs * ((2 * n.natAbs + d.natAbs) / (2 * d.natAbs)) : Nat) : Int) := by
  unfold roundDiv
  rcases Int.lt_or_le d 0 with hd | hd
  · have size : (d.natAbs : Int) = -d := Int.ofNat_natAbs_of_nonpos hd.le
    by_cases hn : n < 0 <;> simp [hn, hd, size]
  · have size : (d.natAbs : Int) = d := Int.natAbs_of_nonneg hd
    by_cases hn : n < 0 <;> simp [hn, hd.not_gt, size]

/-- On sizes, a rounded quotient times its divisor is no further than half the divisor from the dividend, and above
it where the distance is exactly half. -/
theorem mul_roundNat_bounds (a : Nat) {b : Nat} (hb : 0 < b) :
    2 * a < 2 * (b * ((2 * a + b) / (2 * b))) + b ∧ 2 * (b * ((2 * a + b) / (2 * b))) ≤ 2 * a + b := by
  have hdiv : 2 * (b * ((2 * a + b) / (2 * b))) + (2 * a + b) % (2 * b) = 2 * a + b := by
    rw [← Nat.mul_assoc]; exact Nat.div_add_mod ..
  have hmod : (2 * a + b) % (2 * b) < 2 * b := Nat.mod_lt _ (by omega)
  omega

/-- `roundDiv` rounds to the nearest integer, halves away from zero (00 section 4.2). -/
theorem roundDiv_nearest (n : Int) {d : Int} (hd : d ≠ 0) :
    2 * (n - d * roundDiv n d).natAbs ≤ d.natAbs ∧
    (2 * (n - d * roundDiv n d).natAbs = d.natAbs → n.natAbs < (d * roundDiv n d).natAbs) := by
  have hpos := Int.natAbs_pos.2 hd
  obtain ⟨above, below⟩ := mul_roundNat_bounds n.natAbs hpos
  have product := mul_roundDiv n d
  generalize d.natAbs * ((2 * n.natAbs + d.natAbs) / (2 * d.natAbs)) = m at above below product
  rw [product]
  split <;> omega

/-- A conversion is the channel's base plus the rounded product, clamped to the signed 16-bit range (01 R4). -/
theorem convert_eq (entry : List Int) (raw : Nat) :
    convert entry raw = max (-32768) (min 32767
      (entry.getD 2 0 + roundDiv (((raw : Int) - entry.getD 0 0) * entry.getD 1 0) 1024)) :=
  clampInt_eq _ _ _ (by decide)

end Sys2Proof.Machine

namespace Sys2Proof.Proofs

open Sys2Proof.Machine

/-- Settles O5: the rounded quotient is `roundDiv`'s, and `takeSample_latest` gives the channel's latest value. -/
theorem sampleConversion : Obligations.SampleConversion := by
  refine ⟨fun entry raw => ?_, State.takeSample_latest⟩
  obtain ⟨near, half⟩ := roundDiv_nearest (((raw : Int) - entry.getD 0 0) * entry.getD 1 0) (d := 1024) (by decide)
  rw [← Int.natAbs_neg, Int.neg_sub] at near half
  exact ⟨_, near, half, convert_eq entry raw⟩

end Sys2Proof.Proofs

/-! Commutation steps: the vectors and the crossings that identify them, the bridge, and the align vector at the two
entries that set it (02 R24). -/

namespace Sys2Proof.Machine

/-- The driving states by name (02 section 2.1). -/
theorem driving_iff (m : MotorState) :
    driving m = true ↔ m = .align ∨ m = .rampOpen ∨ m = .capture ∨ m = .run ∨ m = .probe := by
  cases m <;> decide

theorem nextStep_of_lt {n : Nat} (h : n < 6) : nextStep n = n + 1 := if_neg (by omega)

/-- A crossing names the step whose vector expects it: `crossingStep` undoes `driveVector`. -/
theorem crossingStep_driveVector {n : Nat} (first : 1 ≤ n) (last : n ≤ 6) :
    crossingStep (driveVector n).2.2.1 (driveVector n).2.2.2 = n := by
  interval_cases n <;> rfl

/-- Two steps with the same floating phase and the same direction of crossing are one step: the crossing names both. -/
theorem step_eq_of_crossing_eq {m n : Nat} (hm : 1 ≤ m ∧ m ≤ 6) (hn : 1 ≤ n ∧ n ≤ 6)
    (same : (driveVector m).2.2 = (driveVector n).2.2) : m = n :=
  calc m = crossingStep (driveVector m).2.2.1 (driveVector m).2.2.2 := (crossingStep_driveVector hm.1 hm.2).symm
    _ = crossingStep (driveVector n).2.2.1 (driveVector n).2.2.2 := by rw [same]
    _ = n := crossingStep_driveVector hn.1 hn.2

namespace State

theorem bridge_eq (s : State) :
    s.bridge =
      if (s.drive.motor = .align ∨ s.drive.motor = .rampOpen ∨ s.drive.motor = .capture ∨ s.drive.motor = .run ∨
          s.drive.motor = .probe) ∧ 0 < s.drive.duty then
        some ((driveVector s.drive.step).1, (driveVector s.drive.step).2.1, s.drive.duty)
      else none := by
  simp only [bridge, driving_iff]

@[simp] theorem startSequence_drive (s : State) : s.startSequence.drive = s.drive.toAlign := by
  rw [startSequence, logMotorStart_drive, leaveStopped_drive]

@[simp] theorem beginProbe_drive (s : State) :
    s.beginProbe.drive = { s.drive with motor := .probe, step := 1, duty := 0, stopCross := none } := rfl

end State

end Sys2Proof.Machine

namespace Sys2Proof.Proofs

open Sys2Proof.Machine

/-- Settles O9: `crossingStep_driveVector` makes the crossing identify the step, and through it no two steps share
one. -/
theorem vectorsAndCrossings : Obligations.VectorsAndCrossings := by
  refine ⟨rfl, rfl, rfl, rfl, rfl, rfl, fun n _ h => nextStep_of_lt h, rfl, fun n => crossingStep_driveVector,
    fun m n hm hm' hn hn' => step_eq_of_crossing_eq ⟨hm, hm'⟩ ⟨hn, hn'⟩, State.bridge_eq, fun s => ⟨?_, ?_⟩⟩
  · rw [State.startSequence_drive, Drive.toAlign]
  · rw [State.beginProbe_drive]

end Sys2Proof.Proofs

/-! The close of a window: the score, the level it moves to, and the part of the state that a close reaches (03 R54 to
R59, R62). -/

namespace Sys2Proof.Machine

/-- The follow-up of an event changes no more of the dirt unit than A, L and the band blank. -/
theorem Calm.dirt_eq {s t : State} (h : t.calm = s.calm) :
    ∃ a l b, t.dirt = { s.dirt with armA := a, relL := l, bandBlank := b } :=
  ⟨t.dirt.armA, t.dirt.relL, t.dirt.bandBlank, congrArg (fun c : Calm =>
    { c.dirt with armA := t.dirt.armA, relL := t.dirt.relL, bandBlank := t.dirt.bandBlank }) h⟩

namespace State

/-- Taking up a pending image changes the table store and nothing else of the calm part. -/
theorem takeUp_calm (s : State) (t : TableId) :
    (s.takeUp t).calm = { s with tables := (s.takeUp t).tables }.calm := by
  unfold takeUp; split <;> rfl

/-! ### Score and level (03 R55 to R58) -/

theorem binScore_eq (s : State) :
    s.binScore = s.binWeight 1 * s.dirt.bins.getD 0 0 + s.binWeight 2 * s.dirt.bins.getD 1 0 +
      s.binWeight 3 * s.dirt.bins.getD 2 0 + s.binWeight 4 * s.dirt.bins.getD 3 0 +
      s.binWeight 5 * s.dirt.bins.getD 4 0 + s.binWeight 6 * s.dirt.bins.getD 5 0 := by
  simp only [binScore, List.range_succ, List.range_zero, List.nil_append, List.foldl_append, List.foldl_cons,
    List.foldl_nil, Nat.zero_add]

theorem levelAfter_eq (s : State) (score : Nat) :
    s.levelAfter score =
      if s.dirt.winSamples < 2 * s.dirt.winBlanked then (s.dirt.level, s.dirt.fallHold)
      else if s.dirt.level < s.riseLevel score then (s.riseLevel score, 0)
      else if s.dirt.level = 0 then (0, s.dirt.fallHold)
      else if s.fallThreshold s.dirt.level ≤ score then (s.dirt.level, 0)
      else if s.dirtField 10 ≤ s.dirt.fallHold + 1 then (s.dirt.level - 1, 0)
      else (s.dirt.level, s.dirt.fallHold + 1) := by
  by_cases zero : s.dirt.level = 0 <;> simp [levelAfter, windowBlanked, zero]

/-- A close keeps the level, raises it to the rise level of the score, or lowers it by one. -/
theorem levelAfter_fst_cases (s : State) (score : Nat) :
    (s.levelAfter score).1 = s.dirt.level ∨
    (s.dirt.level < s.riseLevel score ∧ (s.levelAfter score).1 = s.riseLevel score) ∨
    (s.levelAfter score).1 = s.dirt.level - 1 := by
  unfold levelAfter
  by_cases rise : s.dirt.level < s.riseLevel score
  · by_cases blanked : s.windowBlanked = true <;> simp [blanked, rise]
  · split_ifs <;> simp

theorem riseLevel_le (s : State) (score : Nat) : s.riseLevel score ≤ 3 := by
  unfold riseLevel; split_ifs <;> decide

theorem levelAfter_fst_le (s : State) (score : Nat) (h : s.dirt.level ≤ 3) : (s.levelAfter score).1 ≤ 3 := by
  have := s.riseLevel_le score
  rcases s.levelAfter_fst_cases score with same | ⟨_, rise⟩ | fall <;> omega

theorem le_levelAfter_fst_succ (s : State) (score : Nat) : s.dirt.level ≤ (s.levelAfter score).1 + 1 := by
  rcases s.levelAfter_fst_cases score with same | ⟨above, rise⟩ | fall <;> omega

/-! ### The state after a close -/

theorem windowClose_of_due {s : State} (due : s.windowDue = true) :
    s.windowClose = (s.closeWindow.takeUp .dirt).settled := if_pos due

/-- The calm part after a close: the closed window's, with a waiting DIRT image taken up. -/
theorem windowClose_calm {s : State} (due : s.windowDue = true) :
    s.windowClose.calm =
      { s.closeWindow with tables := s.tables.put .dirt { s.tables.dirt with
          active := s.tables.dirt.waiting.getD s.tables.dirt.active, waiting := none } }.calm := by
  rw [windowClose_of_due due, settled_calm, takeUp_calm, takeUp_tables]
  rfl

/-- The dirt unit after a close, but for A, L and the band blank: the closed window's record stands, its level and
fall-hold count are in force, and nothing is counted in the next one. -/
theorem windowClose_dirt {s : State} (due : s.windowDue = true) :
    ∃ a l b, s.windowClose.dirt = { s.dirt with
      armA := a, relL := l, bandBlank := b, lastWin := s.windowRecord, level := (s.levelAfter s.score).1,
      fallHold := (s.levelAfter s.score).2, winSamples := 0, winBlanked := 0, bins := List.replicate 6 0,
      rejected := 0, contTally := 0, optSum := 0, optCount := 0 } :=
  Calm.dirt_eq (windowClose_calm due)

end State

end Sys2Proof.Machine

namespace Sys2Proof.Proofs

open Sys2Proof.Machine

/-- Settles O20: `windowClose_dirt` gives the dirt unit's fields, `levelAfter_eq` and its bounds the level's move, and
`windowClose_calm` the table taken up and the frame. -/
theorem windowCloseScoresAndLevels : Obligations.WindowCloseScoresAndLevels := by
  intro s due
  have calm := State.windowClose_calm due
  obtain ⟨armA, relL, bandBlank, dirt⟩ := State.windowClose_dirt due
  refine ⟨s.windowClose, rfl, ?_⟩
  rw [dirt]
  refine ⟨?_, s.levelAfter_fst_le _, s.le_levelAfter_fst_succ _, rfl, rfl, rfl, rfl, rfl, rfl, rfl, rfl,
    (Calm.dirtTable_eq calm :), (Calm.acq_eq calm :), (Calm.modem_eq calm :), (Calm.v_eq calm :),
    (Calm.presence_eq calm :), (Calm.powerState_eq calm :), (Calm.pending_eq calm :)⟩
  intro optical score k hold
  have scored : s.score = score := congrArg (· + optical) s.binScore_eq
  refine ⟨scored, rfl, rfl, rfl, rfl, rfl, rfl, rfl, State.windowClose_of_due due, rfl, ?_⟩
  rw [scored]
  exact s.levelAfter_eq score

end Sys2Proof.Proofs

/-! The receive FIFO of the contact modem: a row of the table of 07 R133 at a time for an offered entry, and the place
freed at the head. -/

namespace Sys2Proof.Machine.Modem

/-- A dropped entry leaves overrun pending and moves no field but that and RX_OVERRUN. -/
theorem drop_eq (m : Modem) (e : FifoEntry) :
    m.drop e = { m with overrun := true, rxOverrun := (m.drop e).rxOverrun } := rfl

/-- What a dropped entry adds to RX_OVERRUN: one up to 65535 for a character, nothing for a break or overrun mark. -/
theorem drop_rxOverrun (m : Modem) (e : FifoEntry) :
    (m.drop e).rxOverrun =
      match e with | .brk | .overrun => m.rxOverrun | _ => min 65535 (m.rxOverrun + 1) := by
  cases e <;> rfl

/-- At 32 entries the offered entry is dropped. -/
theorem offer_of_full {m : Modem} (e : FifoEntry) (full : 32 ≤ m.fifo.length) : m.offer e = m.drop e :=
  if_pos full

/-- Below 32 entries and with no overrun pending the offered entry takes the tail. -/
theorem offer_of_clear {m : Modem} (e : FifoEntry) (room : m.fifo.length < 32) (clear : m.overrun = false) :
    m.offer e = { m with fifo := m.fifo ++ [e] } := by
  simp [offer, fifoSize, room, clear]

/-- Below 32 entries a pending overrun gives its mark the tail, and the entry is then offered to what is left. -/
theorem offer_of_pending {m : Modem} (e : FifoEntry) (room : m.fifo.length < 32) (pending : m.overrun = true) :
    m.offer e = ({ m with fifo := m.fifo ++ [.overrun], overrun := false } : Modem).offer e := by
  simp [offer, fifoSize, room, pending]

/-- With two places the overrun mark and the offered entry both find one. -/
theorem offer_of_pending_two_places {m : Modem} (e : FifoEntry) (room : m.fifo.length + 1 < 32)
    (pending : m.overrun = true) :
    m.offer e = { m with fifo := m.fifo ++ [.overrun, e], overrun := false } := by
  rw [offer_of_pending e (by omega) pending, offer_of_clear e (by simpa using room) rfl]
  simp

/-- With one place the overrun mark takes it and the offered entry is dropped. -/
theorem offer_of_pending_last_place {m : Modem} (e : FifoEntry) (last : m.fifo.length + 1 = 32)
    (pending : m.overrun = true) :
    m.offer e = ({ m with fifo := m.fifo ++ [.overrun], overrun := false } : Modem).drop e := by
  rw [offer_of_pending e (by omega) pending, offer_of_full e (by simp [last])]

/-- A head removed with no overrun pending frees its place. -/
theorem pop_of_clear {m : Modem} (clear : m.overrun = false) : m.pop = { m with fifo := m.fifo.drop 1 } := by
  simp [pop, clear]

/-- A place freed at the head while overrun is pending takes the overrun mark. -/
theorem pop_of_pending {m : Modem} (pending : m.overrun = true) :
    m.pop = { m with fifo := m.fifo.drop 1 ++ [.overrun], overrun := false } :=
  if_pos pending

end Sys2Proof.Machine.Modem

namespace Sys2Proof.Proofs

open Sys2Proof.Machine

/-- Settles O31, by the rows of R133: the `offer_of_…` lemmas give the FIFO after an offer by its free places and the
overrun mark owed, `drop_eq` and `drop_rxOverrun` what a drop leaves, and the two `pop_of_…` lemmas the freed place. -/
theorem receiveFifoKeepsArrivalOrder : Obligations.ReceiveFifoKeepsArrivalOrder := by
  intro m e lost
  refine ⟨Modem.offer_of_clear e, Modem.offer_of_pending_two_places e, ?lastPlace, ?full, Modem.pop_of_clear,
    Modem.pop_of_pending⟩
  case lastPlace =>
    intro last pending
    simp only [lost, Modem.offer_of_pending_last_place e last pending]
    exact Modem.drop_eq _ e
  case full =>
    intro full
    simp only [lost, Modem.offer_of_full e full]
    exact ⟨m.drop_eq e, m.drop_rxOverrun e⟩

end Sys2Proof.Proofs

/-! What every event keeps of each block alone: the lengths of the acquisition unit's lists, the dirt window's bins and
level, the bounds of the charge outputs, of the receive FIFO, of the pending set and of the session ring. Each operation
has one lemma `<op>_keeps`; the invariants of the buffers, the charge outputs and the shape follow from them. -/

namespace Sys2Proof.Machine

/-! ### The blocks' own bounds -/

/-- One place for each of the 16 channels and 7 cells. -/
def Acq.Shaped (a : Acq) : Prop :=
  a.latest.length = 16 ∧ a.sat.length = 16 ∧ a.lowCount.length = 16 ∧ a.highCount.length = 16 ∧
  a.lowOn.length = 16 ∧ a.highOn.length = 16 ∧ a.lastGood.length = 7 ∧ a.scanSat.length = 7 ∧
  a.scanVals.length = 16

theorem Acq.Shaped.latest {a : Acq} (h : a.Shaped) : a.latest.length = 16 := h.1

theorem Acq.Shaped.sat {a : Acq} (h : a.Shaped) : a.sat.length = 16 := h.2.1

theorem Acq.Shaped.lowCount {a : Acq} (h : a.Shaped) : a.lowCount.length = 16 := h.2.2.1

theorem Acq.Shaped.highCount {a : Acq} (h : a.Shaped) : a.highCount.length = 16 := h.2.2.2.1

theorem Acq.Shaped.lowOn {a : Acq} (h : a.Shaped) : a.lowOn.length = 16 := h.2.2.2.2.1

theorem Acq.Shaped.highOn {a : Acq} (h : a.Shaped) : a.highOn.length = 16 := h.2.2.2.2.2.1

theorem Acq.Shaped.lastGood {a : Acq} (h : a.Shaped) : a.lastGood.length = 7 := h.2.2.2.2.2.2.1

theorem Acq.Shaped.scanSat {a : Acq} (h : a.Shaped) : a.scanSat.length = 7 := h.2.2.2.2.2.2.2.1

theorem Acq.Shaped.scanVals {a : Acq} (h : a.Shaped) : a.scanVals.length = 16 := h.2.2.2.2.2.2.2.2

/-- Six bins, and a level of 0..3 (03 R58). -/
def Dirt.Shaped (d : Dirt) : Prop :=
  d.bins.length = 6 ∧ d.level ≤ 3

theorem Dirt.Shaped.bins {d : Dirt} (h : d.Shaped) : d.bins.length = 6 := h.1

theorem Dirt.Shaped.level {d : Dirt} (h : d.Shaped) : d.level ≤ 3 := h.2

/-- The bounds of the charge outputs, which read the charge unit alone. -/
def Charge.Bounded (c : Charge) : Prop :=
  (c.session ≠ none ↔ c.path = .charge) ∧
  (c.path ≠ .charge → c.cap = 0 ∧ c.demand = 0 ∧ c.bleed = List.replicate 7 false) ∧ c.demand ≤ c.cap ∧
  c.bleed.length = 7 ∧ c.bleed.countP id ≤ 3

theorem Charge.Bounded.session {c : Charge} (h : c.Bounded) : c.session ≠ none ↔ c.path = .charge := h.1

theorem Charge.Bounded.off {c : Charge} (h : c.Bounded) :
    c.path ≠ .charge → c.cap = 0 ∧ c.demand = 0 ∧ c.bleed = List.replicate 7 false := h.2.1

theorem Charge.Bounded.demand {c : Charge} (h : c.Bounded) : c.demand ≤ c.cap := h.2.2.1

theorem Charge.Bounded.bleed {c : Charge} (h : c.Bounded) : c.bleed.length = 7 ∧ c.bleed.countP id ≤ 3 := h.2.2.2

/-- At most 32 entries in the receive FIFO, and an overrun mark owed only while it is full (07 R133). -/
def Modem.Bounded (m : Modem) : Prop :=
  m.fifo.length ≤ 32 ∧ (m.overrun = true → m.fifo.length = 32)

theorem Modem.Bounded.fifo {m : Modem} (h : m.Bounded) : m.fifo.length ≤ 32 := h.1

theorem Modem.Bounded.overrun {m : Modem} (h : m.Bounded) : m.overrun = true → m.fifo.length = 32 := h.2

/-- At most one record of a kind (08 R151), and one flag for each condition kind. -/
def Causes.Bounded (c : Causes) : Prop :=
  (c.records.map (·.kind)).Nodup ∧ c.present.length = 16

theorem Causes.Bounded.kinds {c : Causes} (h : c.Bounded) : (c.records.map (·.kind)).Nodup := h.1

theorem Causes.Bounded.flags {c : Causes} (h : c.Bounded) : c.present.length = 16 := h.2

/-- At most 32 records, with sequence numbers in 1..65535 (09 R163). -/
def Log.Bounded (l : Log) : Prop :=
  l.ring.length ≤ 32 ∧ (1 ≤ l.nextSeq ∧ l.nextSeq ≤ 65535) ∧ (∀ r ∈ l.ring, 1 ≤ r.seq ∧ r.seq ≤ 65535)

theorem Log.Bounded.ring {l : Log} (h : l.Bounded) : l.ring.length ≤ 32 := h.1

theorem Log.Bounded.next {l : Log} (h : l.Bounded) : 1 ≤ l.nextSeq ∧ l.nextSeq ≤ 65535 := h.2.1

theorem Log.Bounded.seqs {l : Log} (h : l.Bounded) : ∀ r ∈ l.ring, 1 ≤ r.seq ∧ r.seq ≤ 65535 := h.2.2

theorem Log.Bounded.of_ring {l m : Log} (h : l.Bounded) (ring : m.ring = l.ring) (next : m.nextSeq = l.nextSeq) :
    m.Bounded := by
  obtain ⟨hring, hnext, hseqs⟩ := h
  exact ⟨ring ▸ hring, next ▸ hnext, ring ▸ hseqs⟩

theorem State.buffersBounded_iff (s : State) :
    s.BuffersBounded ↔ s.modem.Bounded ∧ s.cause.Bounded ∧ s.log.Bounded :=
  ⟨fun h => ⟨⟨h.fifo, h.overrun⟩, ⟨h.kinds, h.flags⟩, ⟨h.ring, h.next, h.seqs⟩⟩,
    fun ⟨m, c, l⟩ => ⟨m.fifo, m.overrun, l.ring, l.next, l.seqs, c.kinds, c.flags⟩⟩

theorem State.chargeBounded_iff (s : State) : s.ChargeBounded ↔ s.charge.Bounded :=
  ⟨fun h => ⟨h.session, h.off, h.demand, h.bleed⟩, fun h => ⟨h.session, h.off, h.demand, h.bleed⟩⟩

theorem State.shaped_iff (s : State) : s.Shaped ↔ s.acq.Shaped ∧ s.dirt.Shaped :=
  ⟨fun h => ⟨⟨h.latest, h.sat, h.counts.1, h.counts.2, h.sides.1, h.sides.2, h.cells.1, h.cells.2, h.vals⟩,
      ⟨h.bins, h.level⟩⟩,
    fun ⟨a, d⟩ => ⟨a.latest, a.sat, ⟨a.lowCount, a.highCount⟩, ⟨a.lowOn, a.highOn⟩, ⟨a.lastGood, a.scanSat⟩,
      a.scanVals, d.bins, d.level⟩⟩

namespace State

/-- Every bound of the other blocks that holds of `s` holds of `t`. -/
def KeepsLists (s t : State) : Prop :=
  (s.acq.Shaped → t.acq.Shaped) ∧ (s.dirt.Shaped → t.dirt.Shaped) ∧ (s.modem.Bounded → t.modem.Bounded) ∧
  (s.cause.Bounded → t.cause.Bounded) ∧ (s.log.Bounded → t.log.Bounded)

theorem KeepsLists.acq {s t : State} (h : KeepsLists s t) : s.acq.Shaped → t.acq.Shaped := h.1

theorem KeepsLists.dirt {s t : State} (h : KeepsLists s t) : s.dirt.Shaped → t.dirt.Shaped := h.2.1

theorem KeepsLists.modem {s t : State} (h : KeepsLists s t) : s.modem.Bounded → t.modem.Bounded := h.2.2.1

theorem KeepsLists.cause {s t : State} (h : KeepsLists s t) : s.cause.Bounded → t.cause.Bounded := h.2.2.2.1

theorem KeepsLists.log {s t : State} (h : KeepsLists s t) : s.log.Bounded → t.log.Bounded := h.2.2.2.2

/-- Every bound that holds of a block of `s` holds of that block of `t`. -/
def Keeps (s t : State) : Prop :=
  KeepsLists s t ∧ (s.charge.Bounded → t.charge.Bounded)

theorem Keeps.lists {s t : State} (h : Keeps s t) : KeepsLists s t := h.1

theorem Keeps.charge {s t : State} (h : Keeps s t) : s.charge.Bounded → t.charge.Bounded := h.2

variable {s t u : State}

theorem KeepsLists.trans (h : KeepsLists s t) (h' : KeepsLists t u) : KeepsLists s u :=
  ⟨h'.acq ∘ h.acq, h'.dirt ∘ h.dirt, h'.modem ∘ h.modem, h'.cause ∘ h.cause, h'.log ∘ h.log⟩

theorem Keeps.trans (h : Keeps s t) (h' : Keeps t u) : Keeps s u := ⟨h.lists.trans h'.lists, h'.charge ∘ h.charge⟩

theorem Keeps.refl (s : State) : Keeps s s := ⟨⟨id, id, id, id, id⟩, id⟩

theorem keepsLists_charge (s : State) (c : Charge) : KeepsLists s { s with charge := c } := ⟨id, id, id, id, id⟩

/-- The bounds read six blocks. -/
theorem Keeps.of_blocks (acq : t.acq = s.acq) (dirt : t.dirt = s.dirt) (modem : t.modem = s.modem)
    (cause : t.cause = s.cause) (log : t.log = s.log) (charge : t.charge = s.charge) : Keeps s t := by
  refine ⟨⟨?_, ?_, ?_, ?_, ?_⟩, ?_⟩
  · rw [acq]; exact id
  · rw [dirt]; exact id
  · rw [modem]; exact id
  · rw [cause]; exact id
  · rw [log]; exact id
  · rw [charge]; exact id

/-- Of the session log the bounds read the ring and N. -/
theorem Keeps.of_ring (acq : t.acq = s.acq) (dirt : t.dirt = s.dirt) (modem : t.modem = s.modem)
    (cause : t.cause = s.cause) (ring : t.log.ring = s.log.ring) (next : t.log.nextSeq = s.log.nextSeq)
    (charge : t.charge = s.charge) : Keeps s t := by
  refine ⟨⟨?_, ?_, ?_, ?_, fun h => h.of_ring ring next⟩, ?_⟩
  · rw [acq]; exact id
  · rw [dirt]; exact id
  · rw [modem]; exact id
  · rw [cause]; exact id
  · rw [charge]; exact id

/-- An update of the drive unit, the planner, the pack monitor, the frame unit, the tables, power control or the
model's own fields bears on no bound. -/
theorem keeps_others (s : State) (d : Drive) (p : Plan) (k : Pack) (f : Frame) (ts : Tables) (w : Power)
    (q : List Instr) (i n : Nat) : Keeps s { s with
      drive := d, plan := p, pack := k, frame := f, tables := ts, power := w, pending := q, idleSpan := i,
      freeCtr := n } := .of_blocks rfl rfl rfl rfl rfl rfl

theorem keeps_acq (s : State) (a : Acq) (h : s.acq.Shaped → a.Shaped) : Keeps s { s with acq := a } :=
  ⟨⟨h, id, id, id, id⟩, id⟩

theorem keeps_dirt (s : State) (d : Dirt) (h : s.dirt.Shaped → d.Shaped) : Keeps s { s with dirt := d } :=
  ⟨⟨id, h, id, id, id⟩, id⟩

theorem keeps_modem (s : State) (m : Modem) (h : s.modem.Bounded → m.Bounded) : Keeps s { s with modem := m } :=
  ⟨⟨id, id, h, id, id⟩, id⟩

theorem keeps_cause (s : State) (c : Causes) (h : s.cause.Bounded → c.Bounded) : Keeps s { s with cause := c } :=
  ⟨⟨id, id, id, h, id⟩, id⟩

theorem keeps_log (s : State) (l : Log) (h : s.log.Bounded → l.Bounded) : Keeps s { s with log := l } :=
  ⟨⟨id, id, id, id, h⟩, id⟩

theorem keeps_charge (s : State) (c : Charge) (h : s.charge.Bounded → c.Bounded) : Keeps s { s with charge := c } :=
  ⟨⟨id, id, id, id, id⟩, h⟩

end State
end Sys2Proof.Machine

/-! The shared cascade (Cascade.lean) keeps the blocks' bounds. -/

namespace Sys2Proof.Machine

theorem nextSeqOf_bounds {n : Nat} (h : 1 ≤ n ∧ n ≤ 65535) : 1 ≤ nextSeqOf n ∧ nextSeqOf n ≤ 65535 := by
  unfold nextSeqOf; split <;> omega

theorem map_kind_recordOccurrence (rs : List CauseRecord) (k : CauseKind) (now d e : Nat) :
    (recordOccurrence rs k now d e).map (·.kind) =
      if k ∈ rs.map (·.kind) then rs.map (·.kind) else rs.map (·.kind) ++ [k] := by
  have held : rs.any (fun r => r.kind == k) = true ↔ k ∈ rs.map (·.kind) := by simp
  unfold recordOccurrence
  by_cases h : k ∈ rs.map (·.kind)
  · rw [if_pos h, if_pos (held.2 h), List.map_map]
    refine List.map_congr_left fun r _ => ?_
    dsimp only [Function.comp]
    split <;> rfl
  · rw [if_neg h, if_neg (fun x => h (held.1 x)), List.map_append]
    rfl

theorem nodup_kinds_recordOccurrence {rs : List CauseRecord} (h : (rs.map (·.kind)).Nodup) (k : CauseKind)
    (now d e : Nat) : ((recordOccurrence rs k now d e).map (·.kind)).Nodup := by
  rw [map_kind_recordOccurrence]
  split <;> rename_i held
  · exact h
  · exact List.nodup_append.2 ⟨h, List.nodup_singleton k, fun a ha b hb => by
      rw [List.mem_singleton.1 hb]; rintro rfl; exact held ha⟩

theorem nodup_kinds_filter {rs : List CauseRecord} (h : (rs.map (·.kind)).Nodup) (p : CauseRecord → Bool) :
    ((rs.filter p).map (·.kind)).Nodup :=
  h.sublist (List.filter_sublist.map _)

namespace State

/-! ### Recording -/

theorem setCond_keeps (s : State) (k : CauseKind) (b : Bool) : Keeps s (s.setCond k b) :=
  keeps_cause s _ fun ⟨kinds, flags⟩ => ⟨kinds, by simpa using flags⟩

theorem keeps_log_session (s : State) (x : Option Session) (idle : Nat) :
    Keeps s { s with log := { s.log with session := x, idleTime := idle } } :=
  keeps_log s _ fun h => h.of_ring rfl rfl

theorem seeCause_keeps (s : State) (k : CauseKind) : Keeps s (s.seeCause k) := keeps_log_session s _ _

theorem noteOccurrence_keeps (s : State) (k : CauseKind) (d e : Nat) : Keeps s (s.noteOccurrence k d e) :=
  keeps_cause s _ fun ⟨kinds, flags⟩ => ⟨nodup_kinds_recordOccurrence kinds k _ d e, flags⟩

theorem occur_keeps (s : State) (k : CauseKind) (d e : Nat) : Keeps s (s.occur k d e) :=
  (noteOccurrence_keeps s k d e).trans (seeCause_keeps _ k)

theorem raiseInfo_keeps (s : State) (k : CauseKind) (d e : Nat) : Keeps s (s.raiseInfo k d e) := occur_keeps s k d e

theorem endCond_keeps (s : State) (k : CauseKind) : Keeps s (s.endCond k) := by
  unfold endCond; split
  · exact keeps_cause s _ fun ⟨kinds, flags⟩ => ⟨nodup_kinds_filter kinds _, by simpa using flags⟩
  · exact .refl s

/-- A record enters the ring at its number, and a full ring drops its oldest. -/
theorem writeRecord_keeps (s : State) (r : LogRecord) : Keeps s (s.writeRecord r) := by
  refine Keeps.trans (keeps_log s _ fun ⟨ring, next, seqs⟩ => ⟨?_, nextSeqOf_bounds next, ?_⟩)
    (raiseInfo_keeps _ .sessionLogged 0 0)
  · by_cases full : 32 ≤ s.log.ring.length <;> simp [full] <;> omega
  · intro x hx
    by_cases full : 32 ≤ s.log.ring.length <;> simp only [full, decide_true, decide_false, if_true,
      Bool.false_eq_true, if_false, List.mem_append, List.mem_singleton] at hx
    · rcases hx with old | rfl
      · exact seqs x (List.mem_of_mem_drop old)
      · exact next
    · rcases hx with old | rfl
      · exact seqs x old
      · exact next

theorem closeClean_keeps (s : State) (w : EndReason) : Keeps s (s.closeClean w) := by
  unfold closeClean; split
  · split
    · exact writeRecord_keeps s _
    · exact .refl s
  · exact .refl s

theorem closeChargeLog_keeps (s : State) (w : EndReason) : Keeps s (s.closeChargeLog w) := by
  unfold closeChargeLog; split
  · split
    · exact writeRecord_keeps s _
    · exact .refl s
  · exact .refl s

theorem logMotorStart_keeps (s : State) : Keeps s s.logMotorStart := by
  unfold logMotorStart; split
  · exact keeps_log_session s _ _
  · split
    · exact keeps_log_session s _ _
    · exact .refl s

theorem leaveStopped_keeps (s : State) : Keeps s s.leaveStopped := keeps_log_session s _ 0

/-! ### Tables, bands, state of charge -/

theorem takeUp_keeps (s : State) (t : TableId) : Keeps s (s.takeUp t) := by
  unfold takeUp; split
  · exact Keeps.trans (keeps_others s ..) (raiseInfo_keeps _ _ _ _)
  · exact .refl s

theorem takeUpDrive_keeps (s : State) : Keeps s s.takeUpDrive := by
  unfold takeUpDrive; split
  · exact (takeUp_keeps s .drive).trans (keeps_others _ ..)
  · exact .refl s

theorem loadBand_keeps (s : State) : Keeps s s.loadBand := keeps_dirt s _ fun ⟨bins, level⟩ => ⟨bins, level⟩

theorem setBand_keeps (s : State) (b : Nat) : Keeps s (s.setBand b) := by
  unfold setBand; split
  · exact .refl s
  · exact Keeps.trans (keeps_others s ..) (loadBand_keeps _)

theorem planRunExit_keeps (s : State) : Keeps s s.planRunExit :=
  ((setBand_keeps s 0).trans (keeps_others _ ..)).trans (endCond_keeps _ .blockage)

theorem learnCapacity_keeps (s : State) : Keeps s s.learnCapacity := by
  unfold learnCapacity; split
  · exact .of_ring rfl rfl rfl rfl rfl rfl rfl
  · exact .refl s

theorem formSoc_keeps (s : State) : Keeps s s.formSoc := keeps_others s ..

theorem fullAnchor_keeps (s : State) : Keeps s s.fullAnchor := (learnCapacity_keeps s).trans (keeps_others _ ..)

/-! ### Motor -/

theorem enterCoast_keeps (s : State) : Keeps s s.enterCoast := by
  have off : Keeps s { s with drive := s.drive.toCoast } := keeps_others s ..
  unfold enterCoast; dsimp only; split
  · exact (off.trans (planRunExit_keeps _)).trans (takeUpDrive_keeps _)
  · exact off.trans (takeUpDrive_keeps _)

theorem startIfDue_keeps (s : State) : Keeps s s.startIfDue := by
  unfold startIfDue; split
  · exact ((keeps_others s ..).trans (leaveStopped_keeps _)).trans (logMotorStart_keeps _)
  · exact .refl s

/-! ### Pack path -/

/-- The path opened from a state without a charge session. -/
theorem Charge.Bounded.openPath {s : State} (h : s.charge.Bounded) (hp : s.charge.path ≠ .charge) :
    s.openPath.charge.Bounded := by
  obtain ⟨session, off, demand, bleed⟩ := h
  exact ⟨⟨fun x => absurd (session.1 x) hp, fun x => by cases x⟩, fun _ => off hp, demand, bleed⟩

theorem openFromDischarge_keeps (s : State) : Keeps s s.openFromDischarge := by
  unfold openFromDischarge; split <;> rename_i hp
  · exact keeps_charge s _ fun h => Charge.Bounded.openPath h (by rw [hp]; decide)
  · exact .refl s

/-- The charge unit with the path opened from CHARGE. -/
theorem openFromCharge_charge (s : State) (w : EndReason) (hp : s.charge.path = .charge) :
    (s.openFromCharge w).charge = { s.charge with
      path := .opened, dwell := some (ticksOfMs 5), demand := 0, bleed := List.replicate 7 false, session := none,
      cap := 0 } := by
  unfold openFromCharge; rw [if_pos hp]; dsimp only
  rw [takeUp_charge, closeChargeLog_charge]; rfl

theorem openFromCharge_keeps (s : State) (w : EndReason) : Keeps s (s.openFromCharge w) := by
  by_cases hp : s.charge.path = .charge
  · refine ⟨?_, fun _ => ?_⟩
    · unfold openFromCharge; rw [if_pos hp]; dsimp only
      refine KeepsLists.trans ?_ (takeUp_keeps _ .charge).lists
      refine KeepsLists.trans ?_ (keepsLists_charge _ _)
      exact (keepsLists_charge s _).trans (closeChargeLog_keeps _ w).lists
    · rw [openFromCharge_charge s w hp]
      exact ⟨⟨fun x => absurd rfl x, fun x => by cases x⟩, fun _ => ⟨rfl, rfl, rfl⟩, le_refl 0, rfl, Nat.zero_le 3⟩
  · unfold openFromCharge; rw [if_neg hp]; exact .refl s

/-! ### STOPPED, the end of a probe, trips and onsets -/

theorem restStopped_keeps (s : State) : Keeps s s.restStopped := by
  have rest : Keeps s (({ s with drive := s.drive.toStopped } : State).endCond .lostSync).takeUpDrive :=
    ((keeps_others s ..).trans (endCond_keeps _ .lostSync)).trans (takeUpDrive_keeps _)
  unfold restStopped; dsimp only; split
  · exact rest.trans (openFromDischarge_keeps _)
  · exact rest

theorem enterStopped_keeps (s : State) : Keeps s s.enterStopped :=
  (restStopped_keeps s).trans (startIfDue_keeps _)

theorem endProbe_keeps (s : State) (w : ProbeResult) (f : List Bool) : Keeps s (s.endProbe w f) := by
  unfold endProbe; dsimp only
  exact (((restStopped_keeps s).trans (keeps_others _ ..)).trans (raiseInfo_keeps _ _ _ _)).trans (startIfDue_keeps _)

theorem abortProbe_keeps (s : State) (w : ProbeResult) : Keeps s (s.abortProbe w) := by
  unfold abortProbe; split
  · exact endProbe_keeps s w _
  · exact .refl s

theorem endLockout_keeps (s : State) : Keeps s s.endLockout := by
  unfold endLockout; split
  · exact (enterCoast_keeps s).trans (endCond_keeps _ _)
  · exact .refl s

theorem cancelRetry_keeps (s : State) : Keeps s s.cancelRetry := keeps_others s ..

theorem tripDrive_keeps (s : State) : Keeps s s.tripDrive := by
  unfold tripDrive
  refine Keeps.trans ?_ (cancelRetry_keeps _)
  split
  · exact enterCoast_keeps s
  · exact endLockout_keeps s

theorem keeps_trip (s : State) (b : Bool) : Keeps s { s with cause := { s.cause with trip := b } } :=
  keeps_cause s _ fun ⟨kinds, flags⟩ => ⟨kinds, flags⟩

theorem setTrip_keeps (s : State) : Keeps s s.setTrip := by
  unfold setTrip; split
  · exact .refl s
  · exact ((((keeps_trip s true).trans (tripDrive_keeps _)).trans (abortProbe_keeps _ _)).trans
      (openFromDischarge_keeps _)).trans (openFromCharge_keeps _ _)

theorem overcurrentOff_keeps (s : State) : Keeps s s.overcurrentOff := by
  unfold overcurrentOff
  refine Keeps.trans ?_ (cancelRetry_keeps _)
  split
  · exact enterCoast_keeps s
  · exact abortProbe_keeps s _

theorem raise_keeps (s : State) (k : CauseKind) (d : Nat) : Keeps s (s.raise k d) := by
  have noted := (setCond_keeps s k true).trans (occur_keeps _ k d 0)
  unfold State.raise; split
  · exact .refl s
  · dsimp only; split <;> split
    · exact (noted.trans (overcurrentOff_keeps _)).trans (setTrip_keeps _)
    · exact noted.trans (setTrip_keeps _)
    · exact noted.trans (overcurrentOff_keeps _)
    · exact noted

theorem enterLockout_keeps (s : State) : Keeps s s.enterLockout := (keeps_others s ..).trans (raise_keeps _ _ _)

theorem failAttempt_keeps (s : State) : Keeps s s.failAttempt := by
  unfold failAttempt; dsimp only; split
  · exact ((enterCoast_keeps s).trans (keeps_others _ ..)).trans (enterLockout_keeps _)
  · split
    · exact (enterCoast_keeps s).trans (keeps_others _ ..)
    · exact (enterCoast_keeps s).trans (keeps_others _ ..)

/-! ### Charge session -/

theorem enterPhase_lists (s : State) (p : Nat) : KeepsLists s (s.enterPhase p) := by
  have entered : ∀ c, KeepsLists s { s with charge := c } := fun _ => ⟨id, id, id, id, id⟩
  unfold enterPhase; dsimp only; split
  · refine KeepsLists.trans ?_ ((raiseInfo_keeps _ .chargeDone 0 0).trans (fullAnchor_keeps _)).lists
    exact entered _
  · exact entered _

/-- A phase entry: RUNNING in the phase, D 0, the cap formed again. -/
theorem enterPhase_charge (s : State) (p : Nat) :
    ∃ cap, (s.enterPhase p).charge = { s.charge with
      session := some { faulted := false, phase := p }, phaseTime := 0, below := 0, demand := 0,
      highest := max s.charge.highest p, cap := cap } := by
  unfold enterPhase; dsimp only
  split
  · rw [fullAnchor_charge]; exact ⟨_, by simp [formCap, raiseInfo, occur]; rfl⟩
  · exact ⟨_, by simp [formCap]; rfl⟩

theorem enterPhase_keeps (s : State) (p : Nat) (hs : s.charge.session ≠ none) : Keeps s (s.enterPhase p) := by
  refine ⟨enterPhase_lists s p, fun ⟨session, _, _, bleed⟩ => ?_⟩
  obtain ⟨cap, e⟩ := enterPhase_charge s p
  have hp := session.1 hs
  rw [e]
  exact ⟨⟨fun _ => hp, fun _ x => by cases x⟩, fun x => absurd hp x, Nat.zero_le _, bleed⟩

theorem openCharge_keeps (s : State) : Keeps s s.openCharge := by
  refine ⟨?_, fun ⟨_, _, _, bleed⟩ => ?_⟩
  · refine KeepsLists.trans ?_ (enterPhase_lists _ 0)
    exact ⟨id, id, id, id, fun h => h.of_ring rfl rfl⟩
  · unfold openCharge
    obtain ⟨cap, entered⟩ := enterPhase_charge ({ s with
      charge := { s.charge with path := .charge, highest := 0, bleedTime := 0 },
      pack := { s.pack with sessCharge := 0, emptyAtOpen := s.pack.emptyMark },
      log := { s.log with session := some (s.newSession .charge) } }) 0
    rw [entered]
    exact ⟨⟨fun _ => rfl, fun _ x => by cases x⟩, fun x => absurd rfl x, Nat.zero_le _, bleed⟩

theorem choosePath_keeps (s : State) : Keeps s s.choosePath := by
  unfold choosePath; split <;> rename_i hc
  · split
    · refine keeps_charge s _ fun ⟨session, off, demand, bleed⟩ => ?_
      have hp : s.charge.path ≠ .charge := by rw [hc.1]; decide
      exact ⟨⟨fun x => absurd (session.1 x) hp, fun x => by cases x⟩, fun _ => off hp, demand, bleed⟩
    · split
      · exact openCharge_keeps s
      · exact .refl s
    · exact .refl s
  · exact .refl s

/-- The cap formed again bounds the demand, and without a session it is 0. -/
theorem formCap_keeps (s : State) : Keeps s s.formCap := by
  refine keeps_charge s _ fun ⟨session, off, _, bleed⟩ => ⟨session, fun hp => ?_, min_le_right _ _, bleed⟩
  have closed : s.charge.session = none := by
    cases h : s.charge.session with
    | none => rfl
    | some x => exact absurd (session.1 (by rw [h]; exact Option.some_ne_none x)) hp
  obtain ⟨_, demand, off⟩ := off hp
  have cap : s.capOf = 0 := by unfold capOf; rw [closed]
  exact ⟨cap, by show min s.charge.demand s.capOf = 0; rw [cap, Nat.min_zero], off⟩

/-! ### What an event's changes call for -/

theorem formKeep_keeps (s : State) : Keeps s s.formKeep := by
  unfold formKeep; split
  · split
    · exact keeps_others s ..
    · exact .refl s
  · split
    · exact .refl s
    · exact Keeps.trans (keeps_others s ..) (endCond_keeps _ _)

theorem formHold_keeps (s : State) : Keeps s s.formHold := by
  have hold : ∀ b, Keeps s { s with cause := { s.cause with hold := b } } :=
    fun b => keeps_cause s _ fun ⟨kinds, flags⟩ => ⟨kinds, flags⟩
  unfold formHold; split
  · exact .refl s
  · dsimp only; split
    · exact (hold _).trans (abortProbe_keeps _ _)
    · exact hold _

theorem freshDemand_keeps (s : State) : Keeps s s.freshDemand := by
  unfold freshDemand; dsimp only; split
  · exact Keeps.trans (keeps_others s ..) (abortProbe_keeps _ _)
  · exact Keeps.trans (keeps_others s ..) (startIfDue_keeps _)

theorem withdraw_keeps (s : State) : Keeps s s.withdraw := by
  unfold withdraw; dsimp only; split
  · exact Keeps.trans (keeps_others s ..) (enterCoast_keeps _)
  · exact keeps_others s ..

theorem formDemand_keeps (s : State) : Keeps s s.formDemand := by
  unfold formDemand; dsimp only; split
  · exact .refl s
  · split
    · exact freshDemand_keeps s
    · exact withdraw_keeps s

theorem formIdle_keeps (s : State) : Keeps s s.formIdle := by
  unfold formIdle; split
  · split
    · exact keeps_others s ..
    · exact .refl s
  · exact keeps_others s ..

theorem formRequest_keeps (s : State) : Keeps s s.formRequest := keeps_others s ..

theorem formAll_keeps (s : State) : Keeps s s.formAll :=
  ((((((formKeep_keeps s).trans (formHold_keeps _)).trans (choosePath_keeps _)).trans (formRequest_keeps _)).trans
    (formDemand_keeps _)).trans (formCap_keeps _)).trans (formIdle_keeps _)

/-- What an event's changes call for keeps the bounds. -/
theorem settled_keeps (s : State) : Keeps s s.settled := (formAll_keeps s).trans (formAll_keeps _)

end State
end Sys2Proof.Machine

/-! The samples, changes of power state, resets and the pack monitor keep the blocks' bounds: one lemma for each operation, in
the order of the model's files. -/

namespace Sys2Proof.Machine

/-! ### Lists of one length -/

theorem length_keptSides (old new : Image) (f : Nat) (on : List Bool) : (keptSides old new f on).length = on.length := by
  simp [keptSides]

theorem length_clearAbsent {α : Type} (p : List Nat) (x : α) (xs : List α) :
    (clearAbsent p x xs).length = xs.length := by
  simp [clearAbsent]

theorem countP_set_le (xs : List Bool) (i : Nat) : (xs.set i true).countP id ≤ xs.countP id + 1 := by
  by_cases h : i < xs.length
  · rw [List.countP_set h]; simp only [id, if_true]; omega
  · rw [List.set_eq_of_length_le (by omega)]; omega

theorem fillSlots_bounds (volts : List Nat) (delta : Nat) (n : Nat) (held : List Bool) :
    (fillSlots volts delta n held).length = held.length ∧
    (fillSlots volts delta n held).countP id ≤ held.countP id + n := by
  induction n generalizing held with
  | zero => exact ⟨rfl, le_refl _⟩
  | succ n ih =>
    unfold fillSlots; split
    · exact ⟨rfl, by omega⟩
    · rename_i i _
      obtain ⟨length, count⟩ := ih (held.set i true)
      exact ⟨by rw [length, List.length_set], by have := countP_set_le held i; omega⟩

theorem countP_keptSlots_le (volts : List Nat) (delta : Nat) (held : List Bool) :
    (keptSlots volts delta held).countP id ≤ held.countP id := by
  have unzip : held.countP id = held.zipIdx.countP fun c => c.1 := by
    conv_lhs => rw [← List.zipIdx_map_fst 0 held, List.countP_map]
    rfl
  rw [unzip, keptSlots, List.countP_map]
  refine List.countP_mono_left fun c _ hc => ?_
  simp only [Function.comp, id, Bool.and_eq_true] at hc
  exact hc.1

/-- At most three slots are assigned, where at most three were held. -/
theorem assignSlots_bounds (volts : List Nat) (delta : Nat) {held : List Bool} (h : held.countP id ≤ 3) :
    (assignSlots volts delta held).length = held.length ∧ (assignSlots volts delta held).countP id ≤ 3 := by
  obtain ⟨length, count⟩ := fillSlots_bounds volts delta (3 - (keptSlots volts delta held).countP id)
    (keptSlots volts delta held)
  have kept := countP_keptSlots_le volts delta held
  exact ⟨length.trans (by simp [keptSlots]), by unfold assignSlots; dsimp only; omega⟩

/-! ### Blocks at a reset -/

theorem Acq.Shaped.reset : Acq.reset.Shaped := ⟨rfl, rfl, rfl, rfl, rfl, rfl, rfl, rfl, rfl⟩

theorem Charge.Bounded.reset : Charge.reset.Bounded :=
  ⟨⟨fun x => absurd rfl x, fun x => by cases x⟩, fun _ => ⟨rfl, rfl, rfl⟩, le_refl 0, rfl, Nat.zero_le 3⟩

theorem Modem.Bounded.of_empty {m : Modem} (fifo : m.fifo = []) (overrun : m.overrun = false) : m.Bounded :=
  ⟨by rw [fifo]; exact Nat.zero_le 32, fun h => by rw [overrun] at h; cases h⟩

theorem Causes.Bounded.reset : Causes.reset.Bounded := ⟨List.nodup_nil, rfl⟩

theorem Log.Bounded.reset : Log.reset.Bounded :=
  ⟨Nat.zero_le 32, ⟨le_refl 1, by decide⟩, fun _ h => absurd h List.not_mem_nil⟩

theorem Log.Bounded.afterReset {l : Log} (h : l.Bounded) (kind : ResetKind) : (l.afterReset kind).Bounded := by
  unfold Log.afterReset; split
  · exact .reset
  · exact h.of_ring rfl rfl

theorem Dirt.Shaped.fresh {d e : Dirt} (h : d.Shaped) (bins : e.bins = List.replicate 6 0) (level : e.level = d.level) :
    e.Shaped := ⟨by rw [bins]; rfl, level ▸ h.level⟩

/-! ### The receive FIFO -/

theorem Modem.Bounded.of_fifo {m n : Modem} (h : m.Bounded) (fifo : n.fifo = m.fifo) (overrun : n.overrun = m.overrun) :
    n.Bounded := by
  obtain ⟨hf, ho⟩ := h
  exact ⟨fifo ▸ hf, by rw [overrun, fifo]; exact ho⟩

theorem Modem.Bounded.offer {m : Modem} (h : m.Bounded) (e : FifoEntry) : (m.offer e).Bounded := by
  have hl : m.fifo.length ≤ 32 := h.fifo
  have dropped : ∀ n : Modem, n.fifo.length = 32 → (n.drop e).Bounded := fun n full =>
    ⟨(show n.fifo.length ≤ 32 by omega), fun _ => full⟩
  unfold Modem.offer fifoSize; dsimp only; split
  · exact dropped m (by omega)
  · split <;> rename_i owed
    · have := h.overrun owed; omega
    · exact ⟨by simp only [List.length_append, List.length_singleton]; omega, fun x => absurd x owed⟩

theorem Modem.Bounded.pop {m : Modem} (h : m.Bounded) : m.pop.Bounded := by
  unfold Modem.pop; split <;> rename_i owed
  · exact ⟨by have := h.overrun owed; simp; omega, fun x => by cases x⟩
  · exact ⟨by have := h.fifo; simp; omega, fun x => absurd x owed⟩

namespace State

/-! ### Samples (01) -/

theorem setSide_keeps (s : State) (ch : Nat) (high : Bool) (n : Nat) (on : Bool) : Keeps s (s.setSide ch high n on) := by
  unfold setSide
  split <;> exact keeps_acq s _ fun h => by simpa [Acq.Shaped] using h

theorem endUnheld_keeps (s : State) (k : CauseKind) : Keeps s (s.endUnheld k) := by
  unfold endUnheld; split
  · exact .refl s
  · exact endCond_keeps s k

theorem checkSide_keeps (s : State) (ch : Nat) (high : Bool) (v : Int) : Keeps s (s.checkSide ch high v) := by
  unfold checkSide; split
  · exact .refl s
  · split <;> dsimp only <;> split
    · exact (setSide_keeps s ..).trans (raise_keeps _ _ _)
    · exact setSide_keeps s ..
    · exact (setSide_keeps s ..).trans (endUnheld_keeps _ _)
    · exact setSide_keeps s ..

theorem freeUsed_keeps (s : State) : Keeps s s.freeUsed := keeps_others s ..

theorem checkSides_keeps (s : State) (ch : Nat) (v : Int) : Keeps s (s.checkSides ch v) := by
  unfold checkSides; split
  · split
    · exact ((freeUsed_keeps s).trans (checkSide_keeps _ _ _ _)).trans (checkSide_keeps _ _ _ _)
    · exact ((freeUsed_keeps s).trans (checkSide_keeps _ _ _ _)).trans (checkSide_keeps _ _ _ _)
  · exact (checkSide_keeps s _ _ _).trans (checkSide_keeps _ _ _ _)

theorem storeSample_keeps (s : State) (ch : Nat) (v : Int) (b : Bool) : Keeps s (s.storeSample ch v b) := by
  have stored : Keeps s { s with acq := { s.acq with
      latest := s.acq.latest.set ch v, sat := s.acq.sat.set ch b } } :=
    keeps_acq s _ fun h => by simpa [Acq.Shaped] using h
  unfold storeSample; dsimp only; split
  · exact stored
  · split
    · exact stored.trans (raise_keeps _ _ _)
    · exact stored.trans (endCond_keeps _ _)

theorem takeSample_keeps (s : State) (ch raw : Nat) : Keeps s (s.takeSample ch raw) :=
  (storeSample_keeps s _ _ _).trans (checkSides_keeps _ _ _)

theorem foldl_takeSample_keeps (ps : List (Nat × Nat)) (s : State) :
    Keeps s (ps.foldl (fun t p => t.takeSample p.1 p.2) s) := by
  induction ps generalizing s with
  | nil => exact .refl s
  | cons p ps ih => exact (takeSample_keeps s _ _).trans (ih _)

theorem takeFast_keeps (s : State) (ibus iph pz : Nat) : Keeps s (s.takeFast ibus iph pz) := by
  unfold takeFast; dsimp only; split
  · exact (freeUsed_keeps s).trans (foldl_takeSample_keeps _ _)
  · exact ((takeSample_keeps s _ _).trans (takeSample_keeps _ _ _)).trans (takeSample_keeps _ _ _)

/-! ### Scan start -/

theorem foldl_endUnheld_keeps (ks : List CauseKind) (s : State) : Keeps s (ks.foldl State.endUnheld s) := by
  induction ks generalizing s with
  | nil => exact .refl s
  | cons k ks ih => exact (endUnheld_keeps s k).trans (ih _)

theorem takeUpChannels_keeps (s : State) : Keeps s s.takeUpChannels := by
  unfold takeUpChannels; split
  · refine ((takeUp_keeps s .channels).trans (keeps_acq _ _ ?_)).trans (foldl_endUnheld_keeps _ _)
    exact fun ⟨a, b, _, _, e, f, g, h, i⟩ =>
      ⟨a, b, rfl, rfl, (length_keptSides ..).trans e, (length_keptSides ..).trans f, g, h, i⟩
  · exact .refl s

theorem takeUpScan_keeps (s : State) : Keeps s s.takeUpScan := by
  unfold takeUpScan; split
  · dsimp only
    have cleared : Keeps (s.takeUp .scan) { s.takeUp .scan with acq := { (s.takeUp .scan).acq with
        lowCount := clearAbsent (scanChannels (s.takeUp .scan).tables.scan.active) 0 (s.takeUp .scan).acq.lowCount,
        highCount := clearAbsent (scanChannels (s.takeUp .scan).tables.scan.active) 0 (s.takeUp .scan).acq.highCount,
        lowOn := clearAbsent (scanChannels (s.takeUp .scan).tables.scan.active) false (s.takeUp .scan).acq.lowOn,
        highOn := clearAbsent (scanChannels (s.takeUp .scan).tables.scan.active) false (s.takeUp .scan).acq.highOn,
        sat := clearAbsent (scanChannels (s.takeUp .scan).tables.scan.active) false (s.takeUp .scan).acq.sat } } :=
      keeps_acq _ _ fun h => by simpa [Acq.Shaped, length_clearAbsent] using h
    have unheld := ((takeUp_keeps s .scan).trans cleared).trans (foldl_endUnheld_keeps channelKinds _)
    split
    · exact unheld
    · exact unheld.trans (endCond_keeps _ _)
  · exact .refl s

theorem takeUpScanTables_keeps (s : State) : Keeps s s.takeUpScanTables := by
  unfold takeUpScanTables; split
  · split
    · exact ((freeUsed_keeps s).trans (takeUpScan_keeps _)).trans (takeUpChannels_keeps _)
    · exact ((freeUsed_keeps s).trans (takeUpChannels_keeps _)).trans (takeUpScan_keeps _)
  · exact (takeUpChannels_keeps s).trans (takeUpScan_keeps _)

theorem startScan_keeps_bounds (s : State) : Keeps s s.startScan :=
  (takeUpScanTables_keeps s).trans (keeps_acq _ _ fun ⟨a, b, c, d, e, f, g, _, _⟩ => ⟨a, b, c, d, e, f, g, rfl, rfl⟩)

theorem startScanIfAwake_keeps (s : State) : Keeps s s.startScanIfAwake := by
  unfold startScanIfAwake; split
  · exact startScan_keeps_bounds s
  · exact .refl s

/-! ### Changes of power state and resets (11) -/


/-! ### Changes of power state and resets (11) -/

theorem startTelemetry_keeps (s : State) : Keeps s s.startTelemetry := keeps_others s ..

theorem resetBlocks_keeps (s : State) (kind : ResetKind) : Keeps s (s.resetBlocks kind) :=
  ⟨⟨fun _ => .reset, fun _ => ⟨rfl, Nat.zero_le 3⟩, fun _ => .of_empty rfl rfl, fun _ => .reset,
    fun h => h.afterReset kind⟩, fun _ => .reset⟩

theorem resetEnds_keeps (s : State) : Keeps s s.resetEnds := by
  unfold resetEnds; dsimp only; split
  · refine Keeps.trans ?_ (writeRecord_keeps _ _)
    exact (startTelemetry_keeps s).trans (keeps_log _ _ fun h => h.of_ring rfl rfl)
  · exact startTelemetry_keeps s

theorem takeReset_keeps (s : State) (kind : ResetKind) : Keeps s (s.takeReset kind) :=
  (resetBlocks_keeps s kind).trans (resetEnds_keeps _)

theorem keeps_scanning (s : State) (p : Power) (b : Bool) :
    Keeps s { s with power := p, acq := { s.acq with scanning := b } } :=
  ⟨⟨fun ⟨a, b, c, d, e, f, g, h, i⟩ => ⟨a, b, c, d, e, f, g, h, i⟩, id, id, id, id⟩, id⟩

theorem takePinReset_keeps (s : State) : Keeps s s.takePinReset :=
  (resetBlocks_keeps s .pin).trans (keeps_scanning _ _ _)

theorem endPinReset_keeps (s : State) : Keeps s s.endPinReset := (keeps_scanning s _ _).trans (resetEnds_keeps _)

theorem wakeScan_keeps_bounds (s : State) : Keeps s s.wakeScan := by
  unfold wakeScan; split
  · exact keeps_acq s _ fun ⟨a, b, c, d, e, f, g, h, i⟩ => ⟨a, b, c, d, e, f, g, h, i⟩
  · exact startScan_keeps_bounds s

theorem wake_keeps (s : State) : Keeps s s.wake := by
  unfold wake; split
  · refine Keeps.trans (Keeps.trans ?_ (startTelemetry_keeps _)) (wakeScan_keeps_bounds _)
    exact ⟨⟨id, fun h => h.fresh rfl rfl, fun h => h.of_fifo rfl rfl, id, id⟩,
      fun ⟨session, off, demand, bleed⟩ => ⟨session, off, demand, bleed⟩⟩
  · exact .refl s

theorem wakeBy_keeps (s : State) (c : Control) : Keeps s (s.wakeBy c) := by
  unfold wakeBy; split
  · exact (wake_keeps s).trans (keeps_others _ ..)
  · exact .refl s

theorem enterSleep_keeps (s : State) : Keeps s s.enterSleep := by
  unfold enterSleep; split
  · exact takeReset_keeps s _
  · refine Keeps.trans (Keeps.trans ?_ (openFromDischarge_keeps _)) (closeClean_keeps _ _)
    exact ⟨⟨fun ⟨a, b, c, d, e, f, g, h, i⟩ => ⟨a, b, c, d, e, f, g, h, i⟩, fun h => h.fresh rfl rfl,
      fun _ => .of_empty rfl rfl, id, id⟩, id⟩

theorem stopForShip_keeps (s : State) : Keeps s s.stopForShip := by
  unfold stopForShip
  refine Keeps.trans (Keeps.trans (Keeps.trans ?_ (openFromDischarge_keeps _)) (closeClean_keeps _ _))
    (settled_keeps _)
  exact ⟨⟨fun ⟨a, b, c, d, e, f, g, h, i⟩ => ⟨a, b, c, d, e, f, g, h, i⟩, fun h => h.fresh rfl rfl,
    fun _ => .of_empty rfl rfl, id, id⟩, id⟩

theorem leaveShipIfDocked_keeps (s : State) : Keeps s s.leaveShipIfDocked := by
  unfold leaveShipIfDocked; split
  · exact takeReset_keeps s _
  · exact .refl s

theorem enterShip_keeps (s : State) : Keeps s s.enterShip :=
  (stopForShip_keeps s).trans (leaveShipIfDocked_keeps _)

/-! ### Pack monitor (05) -/

theorem fitPack_keeps (s : State) : Keeps s s.fitPack := by
  unfold fitPack; split <;> exact keeps_others s ..

theorem packTable_keeps (s : State) : Keeps s s.packTable := by
  unfold packTable; split
  · exact (takeUp_keeps s .pack).trans (fitPack_keeps _)
  · split
    · exact fitPack_keeps s
    · exact .refl s

theorem packResistance_keeps (s : State) (x : ScanSet) : Keeps s (s.packResistance x) := by
  unfold packResistance; split
  · exact .refl s
  · exact keeps_others s ..

theorem packCharge_keeps (s : State) (x : ScanSet) : Keeps s (s.packCharge x) :=
  .of_ring rfl rfl rfl rfl rfl rfl rfl

theorem packRest_keeps (s : State) (x : ScanSet) : Keeps s (s.packRest x) := by
  unfold packRest; split
  · exact keeps_others s ..
  · exact .refl s

theorem packEmptyTest_keeps (s : State) (x : ScanSet) : Keeps s (s.packEmptyTest x) := by
  have counted : ∀ (u : State) (n : Nat), Keeps u (u.withEmptyCount n) := fun u _ => keeps_others u ..
  unfold packEmptyTest; dsimp only; split
  · exact .refl s
  · split
    · split
      · exact (endCond_keeps s _).trans (counted _ _)
      · exact .refl s
    · split
      · split
        · exact ((counted s _).trans (raise_keeps _ _ _)).trans (keeps_others _ ..)
        · exact counted s _
      · exact counted s _

theorem packExhaustTest_keeps (s : State) : Keeps s s.packExhaustTest := by
  have counted : ∀ n, Keeps s (s.withExhCount n) := fun _ => keeps_others s ..
  unfold packExhaustTest; dsimp only; split
  · split
    · exact endCond_keeps s _
    · exact .refl s
  · split
    · split
      · exact ((counted 0).trans (raise_keeps _ _ _)).trans (keeps_others _ ..)
      · exact counted _
    · exact counted _

theorem packShipTest_keeps (s : State) (x : ScanSet) : Keeps s (s.packShipTest x) := by
  unfold packShipTest; split
  · dsimp only
    have counted : ∀ n, Keeps s { s with pack := { s.pack with shipCount := n } } := fun _ => keeps_others s ..
    generalize (if ((minNat x.volts : Nat) : Int) < s.packField 2 then s.pack.shipCount + 1 else 0) = n
    split
    · exact (counted n).trans (enterShip_keeps _)
    · exact counted n
  · exact .refl s

theorem packScan_keeps (s : State) (x : ScanSet) : Keeps s (s.packScan x) := by
  unfold packScan; dsimp only
  refine Keeps.trans ?_ (packShipTest_keeps _ x)
  refine Keeps.trans ?_ (keeps_others _ ..)
  refine Keeps.trans ?_ (packExhaustTest_keeps _)
  refine Keeps.trans ?_ (packEmptyTest_keeps _ x)
  refine Keeps.trans ?_ (keeps_others _ ..)
  refine Keeps.trans ?_ (formSoc_keeps _)
  refine Keeps.trans ?_ (packRest_keeps _ x)
  refine Keeps.trans ?_ (packCharge_keeps _ x)
  refine Keeps.trans ?_ (packResistance_keeps _ x)
  exact (packTable_keeps s).trans (keeps_others _ ..)

theorem keeps_scanInPulse (s : State) (d : Drive) (p : Pack) (b : Bool) :
    Keeps s { s with drive := d, pack := p, acq := { s.acq with scanInPulse := b } } :=
  ⟨⟨fun ⟨a, b, c, d, e, f, g, h, i⟩ => ⟨a, b, c, d, e, f, g, h, i⟩, id, id, id, id⟩, id⟩

theorem beginPulse_keeps (s : State) (k : Nat) : Keeps s (s.beginPulse k) := keeps_scanInPulse s ..

theorem probeInterval_keeps (s : State) : Keeps s s.probeInterval := by
  unfold probeInterval; split
  · exact .refl s
  · split
    · exact keeps_others s ..
    · exact .refl s
  · split
    · split
      · exact ((keeps_others s ..).trans (endProbe_keeps _ _ _)).trans (settled_keeps _)
      · exact beginPulse_keeps s _
    · exact .refl s

end State
end Sys2Proof.Machine

/-! The charge unit, the planner, the drive and dirt units and the sample traffic keep the blocks' bounds. -/

namespace Sys2Proof.Machine
namespace State

/-! ### Charge unit (06) -/

/-- The bounds do not read the charge unit's times, presence, dock and counts. -/
theorem keeps_charge_rest (s : State) (dwell : Option Nat) (presence : Presence) (high low : Nat)
    (dock : Option DockRecord) (hello silence : Option Nat) (time below highest : Nat) (mismatch : MismatchRun)
    (bleedTime : Nat) (report : Option (Nat × Nat)) :
    Keeps s { s with charge := { s.charge with
      dwell := dwell, presence := presence, highTime := high, lowTime := low, dock := dock, helloWait := hello,
      silence := silence, phaseTime := time, below := below, highest := highest, mismatch := mismatch,
      bleedTime := bleedTime, report := report } } :=
  keeps_charge s _ fun ⟨session, off, demand, bleed⟩ => ⟨session, off, demand, bleed⟩

theorem raiseAtClose_keeps (s : State) (k : CauseKind) : Keeps s (s.raiseAtClose k) := by
  unfold raiseAtClose; split
  · exact ((noteOccurrence_keeps s k 0 0).trans (freeUsed_keeps _)).trans (keeps_log_session _ _ _)
  · exact noteOccurrence_keeps s k 0 0

theorem cancelShip_keeps (s : State) : Keeps s s.cancelShip := by
  unfold cancelShip; split
  · exact keeps_others s ..
  · exact .refl s

theorem packAtDock_keeps (s : State) : Keeps s s.packAtDock :=
  ((endCond_keeps s _).trans (keeps_others _ ..)).trans (abortProbe_keeps _ _)

theorem becomePresent_keeps (s : State) : Keeps s s.becomePresent := by
  unfold becomePresent; dsimp only
  have closed := (((keeps_charge_rest s s.charge.dwell .present 0 0 s.charge.dock (some (ticksOfMs 2000))
    s.charge.silence s.charge.phaseTime s.charge.below s.charge.highest .none s.charge.bleedTime s.charge.report).trans (raiseAtClose_keeps _ .docked)).trans (closeClean_keeps _ .docked)).trans
    (cancelShip_keeps _)
  have woken := ((closed.trans (endLockout_keeps _)).trans (packAtDock_keeps _)).trans (wake_keeps _)
  split
  · exact woken.trans (openFromDischarge_keeps _)
  · exact woken

theorem forgetDock_keeps (s : State) : Keeps s s.forgetDock := keeps_charge_rest s ..

theorem restoreDockStaging_keeps (s : State) : Keeps s s.restoreDockStaging := by
  unfold restoreDockStaging; split
  · exact keeps_others s ..
  · exact .refl s

theorem becomeAbsent_keeps (s : State) : Keeps s s.becomeAbsent := by
  unfold becomeAbsent; dsimp only
  refine Keeps.trans ?_ (openFromCharge_keeps _ _)
  refine Keeps.trans ?_ (restoreDockStaging_keeps _)
  refine Keeps.trans ?_ (((endCond_keeps _ _).trans (endCond_keeps _ _)).trans (endCond_keeps _ _))
  refine Keeps.trans ?_ (raiseAtClose_keeps _ _)
  exact (keeps_charge_rest s ..).trans (forgetDock_keeps _)

theorem presenceScan_keeps (s : State) (x : ScanSet) : Keeps s (s.presenceScan x) := by
  unfold presenceScan; dsimp only; split
  · exact becomePresent_keeps s
  · split
    · split
      · exact becomeAbsent_keeps s
      · exact keeps_charge_rest s ..
    · exact keeps_charge_rest s ..

/-- A phase under way belongs to an open session. -/
theorem session_of_runningPhase {s : State} {p : Nat} (h : s.runningPhase = some p) : s.charge.session ≠ none := by
  intro none
  rw [runningPhase, none] at h
  cases h

theorem exitScan_keeps (s : State) (x : ScanSet) : Keeps s (s.exitScan x) := by
  unfold exitScan; split
  · exact .refl s
  · rename_i running
    split
    · exact enterPhase_keeps s _ (session_of_runningPhase running)
    · exact keeps_charge_rest s ..

theorem path_of_balancing {s : State} {x : ScanSet} (h : s.balancing x = true) : s.charge.path = .charge := by
  unfold balancing at h
  simp only [Bool.and_eq_true, decide_eq_true_eq] at h
  exact h.1.1

/-- At a scan completion no cell bleeds but in a balancing phase on the path CHARGE, and then at most three. -/
theorem bleedScan_keeps (s : State) (x : ScanSet) : Keeps s (s.bleedScan x) := by
  refine keeps_charge s _ fun ⟨session, off, demand, bleed⟩ => ?_
  by_cases on : s.balancing x = true
  · obtain ⟨length, count⟩ := assignSlots_bounds x.volts (s.chargeSetting 4).toNat bleed.2
    exact ⟨session, fun hp => absurd (path_of_balancing on) hp, demand, by
      simp only [if_pos on]; exact ⟨length.trans bleed.1, count⟩⟩
  · simp only [if_neg on]
    exact ⟨session, fun hp => ⟨(off hp).1, (off hp).2.1, rfl⟩, demand, rfl, Nat.zero_le 3⟩

theorem sessionScan_keeps (s : State) (x : ScanSet) : Keeps s (s.sessionScan x) := by
  unfold sessionScan; split
  · split
    · exact ((freeUsed_keeps s).trans (bleedScan_keeps _ x)).trans (exitScan_keeps _ x)
    · exact (exitScan_keeps s x).trans (bleedScan_keeps _ x)
  · exact bleedScan_keeps s x

theorem chargeScan_keeps (s : State) (x : ScanSet) : Keeps s (s.chargeScan x) :=
  (presenceScan_keeps s x).trans (sessionScan_keeps _ x)

theorem endDwell_keeps (s : State) : Keeps s s.endDwell := by
  unfold endDwell; split
  · exact (keeps_charge_rest s ..).trans (settled_keeps _)
  · exact .refl s

theorem endHelloWait_keeps (s : State) : Keeps s s.endHelloWait := by
  unfold endHelloWait; split
  · exact ((keeps_charge_rest s ..).trans (raise_keeps _ _ _)).trans (settled_keeps _)
  · exact .refl s

theorem silence1000_keeps (s : State) : Keeps s s.silence1000 := by
  unfold silence1000; split
  · exact (raise_keeps s _ _).trans (settled_keeps _)
  · exact .refl s

theorem loseDock_keeps (s : State) : Keeps s s.loseDock := by
  unfold loseDock; split
  · refine Keeps.trans (Keeps.trans ?_ (keeps_charge_rest _ ..)) (settled_keeps _)
    exact ((forgetDock_keeps s).trans (restoreDockStaging_keeps _)).trans (openFromCharge_keeps _ _)
  · exact .refl s

theorem faultPhase_keeps (s : State) (p : Nat) (hs : s.charge.session ≠ none) : Keeps s (s.faultPhase p) := by
  unfold faultPhase
  refine Keeps.trans (keeps_charge s _ fun ⟨session, off, demand, _⟩ => ?_) (raise_keeps _ _ _)
  have hp := session.1 hs
  exact ⟨⟨fun _ => hp, fun _ x => by cases x⟩, fun x => absurd hp x, demand, rfl, Nat.zero_le 3⟩

theorem phaseLimit_keeps (s : State) : Keeps s s.phaseLimit := by
  unfold phaseLimit; split
  · exact .refl s
  · rename_i running
    have hs := session_of_runningPhase running
    split
    · refine Keeps.trans ?_ (settled_keeps _)
      split
      · exact faultPhase_keeps s _ hs
      · exact enterPhase_keeps s _ hs
    · exact .refl s

theorem dockFrameTaken_keeps (s : State) : Keeps s s.dockFrameTaken := by
  unfold dockFrameTaken; split
  · exact (keeps_charge_rest s ..).trans (endCond_keeps _ _)
  · exact .refl s

theorem takeHello_keeps (s : State) (i v r : Nat) : Keeps s (s.takeHello i v r) := by
  unfold takeHello; split
  · exact (keeps_charge_rest s ..).trans (endCond_keeps _ _)
  · exact .refl s

theorem withMismatch_keeps (s : State) (m : MismatchRun) : Keeps s (s.withMismatch m) :=
  keeps_charge_rest s ..

theorem mismatchTest_keeps (s : State) (output : Nat) : Keeps s (s.mismatchTest output) := by
  unfold mismatchTest; dsimp only; split
  · split
    · split
      · exact withMismatch_keeps s _
      · split
        · split
          · exact (withMismatch_keeps s _).trans (endCond_keeps _ _)
          · exact .refl s
        · exact withMismatch_keeps s _
        · exact withMismatch_keeps s _
    · split
      · split
        · split
          · exact (withMismatch_keeps s _).trans (raise_keeps _ _ _)
          · exact .refl s
        · exact withMismatch_keeps s _
        · exact withMismatch_keeps s _
      · exact withMismatch_keeps s _
  · exact .refl s

/-- The demand that a POLL leaves is within the cap, and 0 off the path CHARGE. -/
theorem takePoll_keeps (s : State) (output voltage : Nat) : Keeps s (s.takePoll output voltage) := by
  unfold takePoll; dsimp only
  refine Keeps.trans (((keeps_charge_rest s ..).trans (mismatchTest_keeps _ output)).trans
    (settled_keeps _)) (keeps_charge _ _ ?_)
  rintro ⟨session, off, _, bleed⟩
  generalize State.settled _ = u at *
  refine ⟨session, fun hp => ⟨(off hp).1, if_neg hp, (off hp).2.2⟩, ?_, bleed⟩
  show u.demandAfterPoll ≤ u.charge.cap
  unfold demandAfterPoll; split
  · exact min_le_left _ _
  · exact Nat.zero_le _

/-! ### Planner (04) -/

theorem latchTest_keeps (s : State) : Keeps s s.latchTest := by
  unfold latchTest; split
  · exact keeps_others s ..
  · exact .refl s

theorem blockageScan_keeps (s : State) (x : ScanSet) : Keeps s (s.blockageScan x) := by
  have timed : ∀ a b, Keeps s (s.withBlockTimes a b) := fun _ _ => keeps_others s ..
  unfold blockageScan; split
  · split
    · split
      · exact (timed 0 0).trans (endCond_keeps _ _)
      · exact timed _ _
    · split
      · exact (timed 0 0).trans (raise_keeps _ _ _)
      · exact timed _ _
  · exact .refl s

theorem rawChange_keeps (s : State) (c : Control) (b : Bool) : Keeps s (s.rawChange c b) := by
  unfold rawChange; split <;> split
  · exact .refl s
  · exact keeps_others s ..
  · exact .refl s
  · exact keeps_others s ..

theorem restartIdle_keeps (s : State) : Keeps s s.restartIdle := keeps_others s ..

theorem startChord_keeps (s : State) : Keeps s s.startChord := by
  unfold startChord; split
  · exact keeps_others s ..
  · exact .refl s

theorem endChord_keeps (s : State) (c : Control) : Keeps s (s.endChord c) := keeps_others s ..

theorem dockLock_keeps (s : State) : Keeps s s.dockLock := by
  unfold dockLock; split
  · exact raiseInfo_keeps s _ _ _
  · exact .refl s

theorem trigPress_keeps (s : State) : Keeps s s.trigPress := by
  unfold trigPress; split
  · refine Keeps.trans ?_ (settled_keeps _)
    refine Keeps.trans ?_ ((restartIdle_keeps _).trans (startChord_keeps _))
    refine Keeps.trans ?_ ((abortProbe_keeps _ _).trans (wakeBy_keeps _ _))
    exact (keeps_others s ..).trans (dockLock_keeps _)
  · exact .refl s

theorem trigRelease_keeps (s : State) : Keeps s s.trigRelease := by
  unfold trigRelease; split
  · refine Keeps.trans ?_ (settled_keeps _)
    refine Keeps.trans ?_ ((endLockout_keeps _).trans (endChord_keeps _ _))
    exact (keeps_others s ..).trans (latchTest_keeps _)
  · exact .refl s

theorem btnPress_keeps (s : State) : Keeps s s.btnPress := by
  unfold btnPress; split
  · refine Keeps.trans ?_ (settled_keeps _)
    refine Keeps.trans ?_ ((restartIdle_keeps _).trans (startChord_keeps _))
    exact (keeps_others s ..).trans (wakeBy_keeps _ _)
  · exact .refl s

theorem advanceMode_keeps (s : State) : Keeps s s.advanceMode := by
  unfold advanceMode; split
  · exact (keeps_others s ..).trans (raiseInfo_keeps _ _ _ _)
  · exact .refl s

theorem btnRelease_keeps (s : State) : Keeps s s.btnRelease := by
  unfold btnRelease; split
  · refine Keeps.trans ?_ (settled_keeps _)
    refine Keeps.trans ?_ (endChord_keeps _ _)
    exact ((keeps_others s ..).trans (advanceMode_keeps _)).trans (keeps_others _ ..)
  · exact .refl s

/-! ### Drive unit (02) -/

/-- An update of the drive unit alone. -/
theorem keeps_drive (s : State) (d : Drive) (n : Nat) : Keeps s { s with drive := d, freeCtr := n } :=
  keeps_others s ..

theorem alignEnd_keeps (s : State) : Keeps s s.alignEnd := by
  unfold alignEnd; split
  · exact keeps_drive s ..
  · exact .refl s

theorem openStepEnd_keeps (s : State) : Keeps s s.openStepEnd := by
  unfold openStepEnd; split
  · split
    · exact keeps_drive s ..
    · split
      · exact (failAttempt_keeps s).trans (settled_keeps _)
      · exact keeps_drive s ..
  · exact .refl s

theorem captureStep_keeps (s : State) : Keeps s s.captureStep := by
  unfold captureStep; split
  · split
    · exact (failAttempt_keeps s).trans (settled_keeps _)
    · exact keeps_drive s ..
  · exact .refl s

theorem enterRun_keeps (s : State) : Keeps s s.enterRun := by
  unfold enterRun; dsimp only
  exact (((keeps_drive s ..).trans (freeUsed_keeps _)).trans (endCond_keeps _ _)).trans (takeUpDrive_keeps _)

theorem captureCrossing_keeps (s : State) (st : Nat) : Keeps s (s.captureCrossing st) := by
  unfold captureCrossing; split
  · split
    · split
      · exact (enterRun_keeps s).trans (settled_keeps _)
      · exact keeps_drive s ..
    · exact keeps_drive s ..
  · exact .refl s

theorem revolution_keeps (s : State) : Keeps s s.revolution := by
  unfold revolution; dsimp only
  refine Keeps.trans ?_ (setBand_keeps _ _)
  refine Keeps.trans ?_ (keeps_drive _ ..)
  refine Keeps.trans ?_ (keeps_drive _ ..)
  exact ((keeps_drive s ..).trans (freeUsed_keeps _)).trans (takeUpDrive_keeps _)

theorem runCrossing_keeps (s : State) (st : Nat) : Keeps s (s.runCrossing st) := by
  unfold runCrossing; split
  · dsimp only; split
    · split
      · exact ((keeps_drive s ..).trans (revolution_keeps _)).trans (settled_keeps _)
      · exact (keeps_drive s ..).trans (revolution_keeps _)
    · exact keeps_drive s ..
  · exact .refl s

theorem commutate_keeps (s : State) : Keeps s s.commutate := by
  unfold commutate; split
  · exact keeps_drive s ..
  · exact .refl s

theorem lostSync_keeps (s : State) : Keeps s s.lostSync := by
  unfold lostSync; split
  · dsimp only
    have counted : Keeps (s.enterCoast.raise .lostSync 0) (s.enterCoast.raise .lostSync 0).countAttempt :=
      keeps_drive _ ..
    have lost := (((enterCoast_keeps s).trans (raise_keeps _ .lostSync 0)).trans counted).trans (settled_keeps _)
    split
    · exact (lost.trans (enterLockout_keeps _)).trans (settled_keeps _)
    · exact lost
  · exact .refl s

theorem track_keeps (s : State) (st : Nat) : Keeps s (s.track st) := keeps_drive s ..

theorem recatch_keeps (s : State) : Keeps s s.recatch :=
  ((keeps_drive s ..).trans (leaveStopped_keeps _)).trans (logMotorStart_keeps _)

theorem coastCrossing_keeps (s : State) (st : Nat) : Keeps s (s.coastCrossing st) := by
  unfold coastCrossing; dsimp only; split
  · exact ((track_keeps s st).trans (enterStopped_keeps _)).trans (settled_keeps _)
  · split
    · exact (track_keeps s st).trans (recatch_keeps _)
    · exact track_keeps s st

theorem stoppedCrossing_keeps (s : State) : Keeps s s.stoppedCrossing := by
  unfold stoppedCrossing; split
  · split
    · exact (((keeps_drive s ..).trans (leaveStopped_keeps _)).trans (enterCoast_keeps _)).trans (settled_keeps _)
    · exact keeps_drive s ..
  · exact keeps_drive s ..

theorem crossing_keeps (s : State) (ph : Phase) (dir : Direction) : Keeps s (s.crossing ph dir) := by
  unfold crossing; split
  · cases s.drive.motor with
    | stopped => exact stoppedCrossing_keeps s
    | capture => exact captureCrossing_keeps s _
    | run => exact runCrossing_keeps s _
    | coast => exact coastCrossing_keeps s _
    | lockout => exact track_keeps s _
    | align => exact .refl s
    | rampOpen => exact .refl s
    | probe => exact .refl s
  · exact .refl s

theorem coastStop_keeps (s : State) : Keeps s s.coastStop := by
  unfold coastStop; split
  · exact (enterStopped_keeps s).trans (settled_keeps _)
  · exact .refl s

theorem retryEnd_keeps (s : State) : Keeps s s.retryEnd := by
  unfold retryEnd; split
  · exact ((keeps_drive s ..).trans (startIfDue_keeps _)).trans (settled_keeps _)
  · exact .refl s

theorem rampTick_keeps (s : State) : Keeps s s.rampTick := by
  unfold rampTick; split
  · exact keeps_drive s ..
  · exact .refl s

theorem driveFrame_keeps (s : State) (ibus : Int) : Keeps s (s.driveFrame ibus) := by
  have limit : Keeps s s.formLimit := keeps_drive s ..
  have held : ∀ target, Keeps s (s.formLimit.holdCurrent target ibus) := fun _ => limit.trans (keeps_drive _ ..)
  unfold driveFrame; dsimp only
  cases s.formLimit.drive.motor with
  | align => exact held _
  | rampOpen => exact held _
  | capture => exact held _
  | probe =>
    dsimp only; split
    · exact held _
    · exact limit
  | run =>
    dsimp only; split
    · exact limit.trans (keeps_drive _ ..)
    · exact limit
  | stopped => exact limit
  | coast => exact limit
  | lockout => exact limit

/-! ### Dirt unit (03) -/

theorem keeps_dirt_of {s : State} {d : Dirt} (bins : d.bins.length = s.dirt.bins.length) (level : d.level = s.dirt.level) :
    Keeps s { s with dirt := d } :=
  keeps_dirt s d fun ⟨hb, hl⟩ => ⟨bins ▸ hb, level ▸ hl⟩

theorem classify_keeps (s : State) (d : Detector) : Keeps s (s.classify d) := by
  unfold classify; split
  · exact keeps_dirt_of rfl rfl
  · split
    · exact keeps_dirt_of (by simp [bumpAt]) rfl
    · exact keeps_dirt_of rfl rfl

theorem withDetector_keeps (s : State) (d : Detector) : Keeps s (s.withDetector d) := keeps_dirt_of rfl rfl

theorem detect_keeps (s : State) (pz : Nat) : Keeps s (s.detect pz) := by
  unfold detect; split
  · split
    · exact withDetector_keeps s _
    · exact .refl s
  · dsimp only; split
    · exact withDetector_keeps s _
    · split
      · exact classify_keeps s _
      · exact withDetector_keeps s _

theorem dirtSample_keeps (s : State) (v : Int) : Keeps s (s.dirtSample v) := by
  have counted : ∀ b, Keeps s (s.countSample b) := fun _ => keeps_dirt_of rfl rfl
  unfold dirtSample; dsimp only; split
  · exact (counted true).trans (withDetector_keeps _ _)
  · exact (counted false).trans (detect_keeps _ _)

theorem dirtScan_keeps (s : State) (x : ScanSet) : Keeps s (s.dirtScan x) := by
  unfold dirtScan; split
  · split
    · exact keeps_dirt_of rfl rfl
    · exact .refl s
  · exact .refl s

theorem closeWindow_keeps (s : State) : Keeps s s.closeWindow :=
  ⟨⟨id, fun ⟨_, level⟩ => ⟨rfl, s.levelAfter_fst_le _ level⟩, id, id, fun h => h.of_ring rfl rfl⟩, id⟩

theorem windowClose_keeps (s : State) : Keeps s s.windowClose := by
  unfold windowClose; split
  · exact ((closeWindow_keeps s).trans (takeUp_keeps _ _)).trans (settled_keeps _)
  · exact .refl s

theorem endBandBlank_keeps (s : State) : Keeps s s.endBandBlank := by
  unfold endBandBlank; split
  · exact keeps_dirt_of rfl rfl
  · exact .refl s

/-! ### Sample traffic (01) -/

theorem fastFrame_keeps (s : State) (ibus iph pz : Nat) : Keeps s (s.fastFrame ibus iph pz) := by
  have checked : Keeps s (s.checkFast ibus iph pz) := by
    unfold checkFast; split
    · exact (takeFast_keeps s _ _ _).trans (settled_keeps _)
    · exact takeFast_keeps s _ _ _
  have counted : ∀ u : State, Keeps u u.accumulate := fun u =>
    keeps_acq u _ fun ⟨a, b, c, d, e, f, g, h, i⟩ => ⟨a, b, c, d, e, f, g, h, i⟩
  have handed : ∀ u : State, Keeps u u.handFast := fun u => by
    unfold handFast; split
    · exact (driveFrame_keeps u _).trans (dirtSample_keeps _ _)
    · exact .refl u
  unfold fastFrame; split
  · exact (checked.trans (counted _)).trans (handed _)
  · exact .refl s

theorem recordSlot_shaped {a : Acq} (h : a.Shaped) (ch : Nat) (v : Int) (b : Bool) : (a.recordSlot ch v b).Shaped := by
  obtain ⟨latest, sat, lowCount, highCount, lowOn, highOn, lastGood, scanSat, scanVals⟩ := h
  unfold Acq.recordSlot
  refine ⟨latest, sat, lowCount, highCount, lowOn, highOn, ?_, ?_, by simpa⟩
  · dsimp only; split <;> simpa
  · dsimp only; split <;> simpa

theorem slotEnd_keeps (s : State) (raw : Nat) : Keeps s (s.slotEnd raw) := by
  have checked : ∀ ch, Keeps s (s.checkSlow ch raw) := fun ch => by
    unfold checkSlow; split
    · exact (takeSample_keeps s _ _).trans (settled_keeps _)
    · exact takeSample_keeps s _ _
  unfold slotEnd; split
  · exact (checked _).trans (keeps_acq _ _ fun h => recordSlot_shaped h _ _ _)
  · exact .refl s

theorem finishScan_keeps (s : State) : Keeps s s.finishScan :=
  ⟨⟨fun ⟨a, b, c, d, e, f, g, h, i⟩ => ⟨a, b, c, d, e, f, g, h, i⟩, id, id, id, id⟩, id⟩

theorem packPart_keeps (s : State) (x : ScanSet) : Keeps s (s.packPart x) := by
  unfold packPart; split
  · exact ((packScan_keeps s x).trans (latchTest_keeps _)).trans (settled_keeps _)
  · exact .refl s

theorem chargePart_keeps (s : State) (x : ScanSet) : Keeps s (s.chargePart x) := by
  unfold chargePart; split
  · exact (chargeScan_keeps s x).trans (settled_keeps _)
  · exact .refl s

theorem planPart_keeps (s : State) (x : ScanSet) : Keeps s (s.planPart x) := by
  unfold planPart; split
  · exact (blockageScan_keeps s x).trans (settled_keeps _)
  · exact .refl s

theorem handOn_keeps (s : State) (x : ScanSet) : Keeps s (s.handOn x) :=
  handOn_induction s x (fun _ _ u => Keeps s u) (.refl s) (freeUsed_keeps s)
    (fun _ _ h => h.trans (packPart_keeps _ x)) (fun _ _ h => h.trans (chargePart_keeps _ x))
    (fun _ _ _ h => h.trans (planPart_keeps _ x))

theorem scanCompletion_keeps (s : State) : Keeps s s.scanCompletion := by
  unfold scanCompletion; split
  · refine Keeps.trans ?_ (keeps_others _ ..)
    refine Keeps.trans ?_ (settled_keeps _)
    refine Keeps.trans ?_ (startScanIfAwake_keeps _)
    exact ((finishScan_keeps s).trans (dirtScan_keeps _ _)).trans (handOn_keeps _ _)
  · exact .refl s

theorem sleepScanStart_keeps (s : State) : Keeps s s.sleepScanStart := by
  unfold sleepScanStart; split
  · refine Keeps.trans ?_ (settled_keeps _)
    exact (startScan_keeps_bounds s).trans
      (keeps_acq _ _ fun ⟨a, b, c, d, e, f, g, h, i⟩ => ⟨a, b, c, d, e, f, g, h, i⟩)
  · exact .refl s

end State
end Sys2Proof.Machine

/-! The links, the requests and power control keep the blocks' bounds, and with them every command and the passing of time. -/

namespace Sys2Proof.Machine

/-! ### The receiver and the transmitter -/

theorem Modem.Bounded.takeCharacter {m : Modem} (h : m.Bounded) (bits : List BitClass) : (m.takeCharacter bits).Bounded := by
  unfold Modem.takeCharacter; dsimp only; split
  · refine Modem.Bounded.offer ?_ _; exact h.of_fifo rfl rfl
  · split
    · refine Modem.Bounded.offer ?_ _; exact h.of_fifo rfl rfl
    · refine Modem.Bounded.offer ?_ _; exact h.of_fifo rfl rfl

theorem Modem.Bounded.bitTime {m : Modem} (h : m.Bounded) (bit : BitClass) : (m.bitTime bit).Bounded := by
  have received : (m.receive bit).fifo = m.fifo ∧ (m.receive bit).overrun = m.overrun := by
    unfold Modem.receive; split
    · split <;> exact ⟨rfl, rfl⟩
    · exact ⟨rfl, rfl⟩
    · exact ⟨rfl, rfl⟩
  unfold Modem.bitTime; split
  · exact h.of_fifo received.1 received.2
  · exact h.of_fifo rfl rfl

theorem Modem.Bounded.carrierFalls {m : Modem} (h : m.Bounded) : m.carrierFalls.Bounded := by
  have idle : Modem.Bounded { m with
      carrier := false, toneRun := 0, silRun := 0, rx := .idle, breakDue := false, bitsSince := 0 } := h.of_fifo rfl rfl
  unfold Modem.carrierFalls; dsimp only
  split
  · exact (idle.offer .brk).of_fifo rfl rfl
  · exact h.of_fifo rfl rfl

namespace State

/-! ### Contact modem (07) -/

theorem withModem_keeps {s : State} {m : Modem} (h : s.modem.Bounded → m.Bounded) : Keeps s (s.withModem m) :=
  keeps_modem s m h

theorem bitTime_keeps (s : State) (bit : BitClass) : Keeps s (s.bitTime bit) := by
  unfold bitTime; split
  · exact withModem_keeps fun h => h.bitTime bit
  · exact .refl s

theorem characterComplete_keeps (s : State) : Keeps s s.characterComplete := by
  unfold characterComplete; split
  · split
    · exact withModem_keeps fun h => h.takeCharacter _
    · exact .refl s
  · exact .refl s

theorem breakMark_keeps (s : State) : Keeps s s.breakMark := by
  unfold breakMark; split
  · refine withModem_keeps fun h => Modem.Bounded.offer ?_ _; exact h.of_fifo rfl rfl
  · exact .refl s

theorem discardAnswer_keeps (s : State) (a : Answer) : Keeps s (s.discardAnswer a) := by
  have discarded : Keeps s (s.withModem { s.modem with
      buf := none, replyMissed := satCount (s.modem.replyMissed + 1) }) := withModem_keeps fun h => h.of_fifo rfl rfl
  unfold discardAnswer; dsimp only; split
  · exact discarded.trans (takeReset_keeps _ _)
  · exact discarded

theorem discardBuffered_keeps (s : State) : Keeps s s.discardBuffered := by
  unfold discardBuffered; split
  · exact discardAnswer_keeps s _
  · exact .refl s

theorem carrierAssert_keeps (s : State) : Keeps s s.carrierAssert := by
  unfold carrierAssert; split
  · refine Keeps.trans ?_ (discardBuffered_keeps _)
    exact withModem_keeps fun h => h.of_fifo rfl rfl
  · exact .refl s

theorem transmit_keeps (s : State) (a : Answer) : Keeps s (s.withModem (s.modem.transmit a)) :=
  withModem_keeps fun h => h.of_fifo rfl rfl

theorem openWindow_keeps (s : State) : Keeps s s.openWindow := by
  unfold openWindow; split
  · split
    · exact transmit_keeps s _
    · exact discardAnswer_keeps s _
  · exact .refl s

theorem carrierDeassert_keeps (s : State) : Keeps s s.carrierDeassert := by
  unfold carrierDeassert; split
  · exact (withModem_keeps fun h => h.carrierFalls).trans (openWindow_keeps _)
  · exact .refl s

theorem windowExpiry_keeps (s : State) : Keeps s s.windowExpiry := by
  unfold windowExpiry; split
  · split
    · refine Keeps.trans ?_ (discardBuffered_keeps _)
      exact withModem_keeps fun h => h.of_fifo rfl rfl
    · exact .refl s
  · exact .refl s

theorem handDock_keeps (s : State) (a : Answer) : Keeps s (s.handDock a) := by
  unfold handDock; split
  · exact transmit_keeps s a
  · split
    · exact withModem_keeps fun h => h.of_fifo rfl rfl
    · exact discardAnswer_keeps s a

theorem stageEnd_keeps (s : State) : Keeps s s.stageEnd := by
  unfold stageEnd; split
  · exact .refl s
  · split
    · split
      · exact withModem_keeps fun h => h.of_fifo rfl rfl
      · exact withModem_keeps fun h => h.of_fifo rfl rfl
      · exact .refl s
    · exact .refl s

theorem transmissionEnd_keeps (s : State) : Keeps s s.transmissionEnd := by
  have idle : Keeps s (s.withModem { s.modem with tx := none, rx := .idle, toneRun := 0, silRun := 0 }) :=
    withModem_keeps fun h => h.of_fifo rfl rfl
  unfold transmissionEnd; split
  · exact .refl s
  · split
    · dsimp only; split
      · exact idle.trans (takeReset_keeps _ _)
      · exact idle
    · exact .refl s

/-! ### Frame unit (10) -/

theorem withFrame_keeps (s : State) (f : Frame) : Keeps s (s.withFrame f) := keeps_others s ..

theorem withCounts_keeps (s : State) (f : LinkCounts → LinkCounts) : Keeps s (s.withCounts f) := keeps_others s ..

theorem withParser_keeps (s : State) (o : Origin) (p : Parser) : Keeps s (s.withParser o p) := by
  cases o <;> exact withFrame_keeps s _

theorem fillSlot_keeps (s : State) (o : Origin) (r : Request) : Keeps s (s.fillSlot o r) := by
  cases o <;> exact withFrame_keeps s _

theorem frameSent_keeps (s : State) : Keeps s s.frameSent := by
  have after : ∀ (u : State) (tag : FrameTag), Keeps u (u.afterFrame tag) := fun u tag => by
    unfold afterFrame; split
    · exact .refl u
    · split
      · exact enterShip_keeps u
      · exact .refl u
    · exact takeReset_keeps u _
  unfold frameSent; split
  · split
    · exact (withFrame_keeps s _).trans (after _ _)
    · exact .refl s
  · exact .refl s

theorem frameTaken_keeps (s : State) (o : Origin) : Keeps s (s.frameTaken o) := by
  cases o with
  | chassis => exact ((wake_keeps s).trans (restartIdle_keeps _)).trans (settled_keeps _)
  | dock => exact (dockFrameTaken_keeps s).trans (settled_keeps _)

theorem frameComplete_keeps (s : State) (o : Origin) (bs crc : List Byte) (p : Nat) :
    Keeps s (s.frameComplete o bs crc p) := by
  unfold frameComplete; split
  · exact withCounts_keeps s _
  · split
    · exact withCounts_keeps s _
    · split
      · exact withCounts_keeps s _
      · exact (fillSlot_keeps s _ _).trans (frameTaken_keeps _ _)

theorem huntByte_keeps (s : State) (o : Origin) (b : Byte) : Keeps s (s.huntByte o b) := by
  unfold huntByte; split
  · dsimp only; split
    · exact ((withParser_keeps s _ _).trans (wake_keeps _)).trans (settled_keeps _)
    · exact withParser_keeps s _ _
  · exact .refl s

theorem parseByte_keeps (s : State) (o : Origin) (b : Byte) (p : Nat) : Keeps s (s.parseByte o b p) := by
  unfold parseByte; dsimp only; split
  · exact huntByte_keeps s _ _
  · split
    · exact withParser_keeps s _ _
    · exact ((withParser_keeps s _ _).trans (withCounts_keeps _ _)).trans (huntByte_keeps _ _ _)
  · exact withParser_keeps s _ _
  · exact withParser_keeps s _ _
  · exact (withParser_keeps s _ _).trans (frameComplete_keeps _ _ _ _ _)

theorem chassisCharacter_keeps (s : State) (b : Byte) (good : Bool) : Keeps s (s.chassisCharacter b good) := by
  have restarted : Keeps s s.gapRestart := withFrame_keeps s _
  unfold chassisCharacter; split
  · split
    · exact restarted.trans (parseByte_keeps _ _ _ _)
    · exact (restarted.trans (withParser_keeps _ _ _)).trans (withCounts_keeps _ _)
  · exact .refl s

theorem gap_keeps (s : State) : Keeps s s.gap := by
  unfold gap; split
  · exact (withParser_keeps s _ _).trans (withCounts_keeps _ _)
  · exact .refl s

theorem contactMark_keeps (s : State) (b : Bool) : Keeps s (s.contactMark b) := by
  unfold contactMark; split
  · dsimp only; split
    · exact (withParser_keeps s _ _).trans (withModem_keeps fun h => h.of_fifo rfl rfl)
    · exact withParser_keeps s _ _
  · exact .refl s

theorem entryTaken_keeps (s : State) : Keeps s s.entryTaken := by
  have entry : ∀ (u : State) (e : FifoEntry), Keeps u (u.contactEntry e) := fun u e => by
    cases e with
    | byte b p => exact parseByte_keeps u _ _ _
    | brk => exact contactMark_keeps u _
    | parity => exact contactMark_keeps u _
    | stop => exact contactMark_keeps u _
    | overrun => exact contactMark_keeps u _
  unfold entryTaken; split
  · split
    · exact (withModem_keeps fun h => h.pop).trans (entry _ _)
    · exact .refl s
  · exact .refl s

theorem startUpEnd_keeps (s : State) : Keeps s s.startUpEnd := by
  unfold startUpEnd; split
  · exact withFrame_keeps s _
  · exact .refl s

theorem telemetry_keeps (s : State) : Keeps s s.telemetry := by
  unfold telemetry; split
  · exact withFrame_keeps s _
  · exact .refl s

/-! ### Tables (10 section 10.4) -/

/-- The window of an active keep-alive check from 0, where a check is active. -/
theorem keepRestart_keeps (s : State) : Keeps s (if s.keepActive ∧ s.frame.keep ≠ .idle then
    s.withFrame { s.frame with keep := .running true 0 } else s) := by
  split
  · exact withFrame_keeps s _
  · exact .refl s

theorem systemChangeover_keeps (s : State) : Keeps s s.systemChangeover := by
  have restarted := (startTelemetry_keeps s).trans (keepRestart_keeps _)
  unfold systemChangeover; dsimp only
  generalize (if s.startTelemetry.keepActive ∧ s.startTelemetry.frame.keep ≠ .idle then
      s.startTelemetry.withFrame { s.startTelemetry.frame with keep := .running true 0 } else s.startTelemetry) = u
    at restarted
  split
  · exact restarted.trans (enterSleep_keeps _)
  · exact restarted

theorem changeover_keeps (s old : State) (t : TableId) : Keeps s (s.changeover old t) := by
  cases t with
  | drive => exact keeps_drive s ..
  | band => exact loadBand_keeps s
  | actions =>
    unfold changeover; dsimp only; split
    · exact setTrip_keeps s
    · exact .refl s
  | system => exact systemChangeover_keeps s
  | _ => exact .refl s

theorem putTable_keeps (s : State) (t : TableId) (x : TableSlot) : Keeps s (s.putTable t x) := keeps_others s ..

theorem activate_keeps (s : State) (t : TableId) : Keeps s (s.activate t) := by
  unfold activate; dsimp only; split
  · exact putTable_keeps s _ _
  · exact ((putTable_keeps s _ _).trans (changeover_keeps _ _ _)).trans (settled_keeps _)

/-! ### Requests -/

@[simp] theorem reply_state (s : State) (st : Status) : (s.reply st).state = s := rfl
@[simp] theorem reply_status (s : State) (st : Status) : (s.reply st).status = st := rfl
@[simp] theorem reply_data (s : State) (st : Status) : (s.reply st).data = [] := rfl
@[simp] theorem reply_tag (s : State) (st : Status) : (s.reply st).tag = .plain := rfl
@[simp] theorem replyData_state (s : State) (data : List Byte) : (s.replyData data).state = s := rfl
@[simp] theorem replyData_status (s : State) (data : List Byte) : (s.replyData data).status = .ok := rfl
@[simp] theorem replyData_data (s : State) (data : List Byte) : (s.replyData data).data = data := rfl
@[simp] theorem replyData_tag (s : State) (data : List Byte) : (s.replyData data).tag = .plain := rfl

theorem handTo_keeps (p : Reply) (o : Origin) (r : Request) : Keeps p.state (p.handTo o r) := by
  cases o with
  | chassis => exact withFrame_keeps p.state _
  | dock => exact (withFrame_keeps p.state _).trans (handDock_keeps _ _)

theorem serve_keeps (s : State) (kind : Nat) (block : State → Origin → List Byte → Reply)
    (h : ∀ o body, Keeps s (block s o body).state) : Keeps s (s.serve kind block) := by
  unfold serve; split
  · split
    · split
      · exact handTo_keeps (s.reply _) _ _
      · exact (h _ _).trans (handTo_keeps _ _ _)
    · exact .refl s
  · exact .refl s

theorem serveTableWrite_keeps (s : State) (o : Origin) (body : List Byte) :
    Keeps s (s.serveTableWrite o body).state := by
  unfold serveTableWrite; dsimp only; split
  · exact .refl s
  · split_ifs
    · exact .refl s
    · exact .refl s
    · exact .refl s
    · exact putTable_keeps s _ _

theorem serveTableRead_keeps (s : State) (o : Origin) (body : List Byte) : Keeps s (s.serveTableRead o body).state := by
  unfold serveTableRead; dsimp only; split
  · exact .refl s
  · split_ifs <;> exact .refl s

theorem serveTableActivate_keeps (s : State) (o : Origin) (body : List Byte) :
    Keeps s (s.serveTableActivate o body).state := by
  unfold serveTableActivate; split
  · exact .refl s
  · split
    · exact .refl s
    · split
      · exact .refl s
      · exact activate_keeps s _

theorem serveTableDiscard_keeps (s : State) (o : Origin) (body : List Byte) :
    Keeps s (s.serveTableDiscard o body).state := by
  unfold serveTableDiscard; split
  · exact .refl s
  · split
    · exact .refl s
    · exact putTable_keeps s _ _

theorem serveRunPermit_keeps (s : State) (o : Origin) (body : List Byte) : Keeps s (s.serveRunPermit o body).state := by
  have permitted : ∀ b, Keeps s (s.withPermit b).settled := fun _ => (keeps_others s ..).trans (settled_keeps _)
  unfold serveRunPermit; split <;> rw [reply_state]
  · exact permitted false
  · exact permitted true
  · exact .refl s

theorem serveModeSet_keeps (s : State) (o : Origin) (body : List Byte) : Keeps s (s.serveModeSet o body).state := by
  have set : ∀ m, Keeps s (s.withMode m).settled := fun _ => (keeps_others s ..).trans (settled_keeps _)
  unfold serveModeSet; split <;> rw [reply_state]
  · exact set .eco
  · exact set .auto
  · exact set .boost
  · exact .refl s

theorem keepAlive_keeps (s : State) : Keeps s s.keepAlive := by
  unfold keepAlive; split
  · exact .refl s
  · refine Keeps.trans ?_ (settled_keeps _)
    split
    · exact (withFrame_keeps s _).trans (raise_keeps _ _ _)
    · exact (withFrame_keeps s _).trans (endCond_keeps _ _)

theorem serveCounts_keeps (s : State) (o : Origin) (body : List Byte) : Keeps s (s.serveCounts o body).state := by
  unfold serveCounts; split
  · exact .refl s
  · exact ⟨⟨id, id, fun h => h.of_fifo rfl rfl, id, fun h => h.of_ring rfl rfl⟩, id⟩
  · exact .refl s

theorem takeCause_keeps (s : State) (r : CauseRecord) : Keeps s (s.takeCause r) := by
  refine keeps_cause s _ fun ⟨kinds, flags⟩ => ⟨?_, flags⟩
  dsimp only; split
  · rw [List.map_map]
    refine (List.map_congr_left fun x _ => ?_ : _ = s.cause.records.map (·.kind)) ▸ kinds
    dsimp only [Function.comp]; split <;> rfl
  · exact nodup_kinds_filter kinds _

theorem serveCause_keeps (s : State) (o : Origin) (body : List Byte) : Keeps s (s.serveCause o body).state := by
  unfold serveCause; split
  · exact takeCause_keeps s _
  · exact .refl s

theorem serveClearTrip_keeps (s : State) (o : Origin) (body : List Byte) : Keeps s (s.serveClearTrip o body).state := by
  unfold serveClearTrip; split <;> rw [reply_state]
  · exact .refl s
  · exact (keeps_trip s false).trans (settled_keeps _)

theorem withWindow_keeps (s : State) (o : Origin) (w : ReadWindow) : Keeps s (s.withWindow o w) := by
  cases o <;> exact keeps_log s _ fun h => h.of_ring rfl rfl

theorem serveLogWindow_keeps (s : State) (o : Origin) (body : List Byte) : Keeps s (s.serveLogWindow o body).state := by
  unfold serveLogWindow; dsimp only; split
  · exact .refl s
  · split
    · exact .refl s
    · exact withWindow_keeps s _ _

theorem serveLogNext_keeps (s : State) (o : Origin) (body : List Byte) : Keeps s (s.serveLogNext o body).state := by
  unfold serveLogNext; split
  · exact .refl s
  · split
    · exact .refl s
    · split
      · exact withWindow_keeps s _ _
      · exact withWindow_keeps s _ _

theorem beginProbe_keeps (s : State) : Keeps s s.beginProbe :=
  ((keeps_others s ..).trans (leaveStopped_keeps _)).trans (beginPulse_keeps _ 1)

theorem serveProbe_keeps (s : State) (o : Origin) (body : List Byte) : Keeps s (s.serveProbe o body).state := by
  unfold serveProbe; split
  · exact .refl s
  · split
    · exact .refl s
    · rw [reply_state]; exact (beginProbe_keeps s).trans (settled_keeps _)

theorem serveSleep_keeps (s : State) (o : Origin) (body : List Byte) : Keeps s (s.serveSleep o body).state := by
  unfold serveSleep; split <;> rw [reply_state]
  · exact .refl s
  · exact (enterSleep_keeps s).trans (settled_keeps _)

theorem serveShip_keeps (s : State) (o : Origin) (body : List Byte) : Keeps s (s.serveShip o body).state := by
  unfold serveShip; split
  · exact .refl s
  · dsimp only; exact (keeps_others s ..).trans (settled_keeps _)

theorem serveDockHello_keeps (s : State) (o : Origin) (body : List Byte) : Keeps s (s.serveDockHello o body).state := by
  unfold serveDockHello; dsimp only; rw [replyData_state]
  exact (takeHello_keeps s ..).trans (settled_keeps _)

theorem serveUnknown_keeps (s : State) : Keeps s s.serveUnknown := by
  unfold serveUnknown; split
  · split
    · exact handTo_keeps (s.reply _) _ _
    · exact .refl s
  · exact .refl s

/-! ### Power control (11) -/

theorem keepExpiry_keeps (s : State) : Keeps s s.keepExpiry := by
  unfold keepExpiry; split
  · exact ((withFrame_keeps s _).trans (raise_keeps _ _ _)).trans (settled_keeps _)
  · exact .refl s

theorem sessionIdle_keeps (s : State) : Keeps s s.sessionIdle := by
  unfold sessionIdle; split
  · exact closeClean_keeps s _
  · exact .refl s

theorem idleExpiry_keeps (s : State) : Keeps s s.idleExpiry := by
  unfold idleExpiry; split
  · exact (enterSleep_keeps s).trans (settled_keeps _)
  · exact .refl s

theorem settleEnd_keeps (s : State) : Keeps s s.settleEnd := by
  unfold settleEnd; split
  · exact (keeps_others s ..).trans (settled_keeps _)
  · exact .refl s

theorem lineChange_keeps (s : State) (high : Bool) : Keeps s (s.lineChange high) := by
  have moved : Keeps s (s.withLine high) := keeps_others s ..
  unfold lineChange; split
  · exact .refl s
  · dsimp only; split
    · split
      · exact (moved.trans (endPinReset_keeps _)).trans (settled_keeps _)
      · exact moved
    · split
      · exact moved.trans (keeps_others _ ..)
      · exact moved

theorem lineReturn_keeps (s : State) : Keeps s s.lineReturn := by
  unfold lineReturn; split
  · exact keeps_others s ..
  · exact .refl s

theorem pinReset_keeps (s : State) : Keeps s s.pinReset := by
  unfold pinReset; split
  · exact takePinReset_keeps s
  · exact .refl s

theorem chordReset_keeps (s : State) : Keeps s s.chordReset := by
  unfold chordReset; split
  · exact takeReset_keeps s _
  · exact .refl s

theorem powerOn_keeps (s : State) (source : PowerSource) : Keeps s (s.powerOn source) := by
  cases source with
  | supply => exact takeReset_keeps s _
  | contact mv => exact (keeps_others s ..).trans (leaveShipIfDocked_keeps _)

/-! ### Every command, and the passing of time -/

theorem advance_keeps (s : State) (dt : Nat) : Keeps s (s.advance dt) := by
  unfold advance; split
  · refine ⟨⟨fun ⟨a, b, c, d, e, f, g, h, i⟩ => ⟨a, b, c, d, e, f, g, h, i⟩, fun h => ?_, fun h => h.of_fifo rfl rfl,
      id, fun h => ?_⟩, fun ⟨session, off, demand, bleed⟩ => ⟨session, off, demand, bleed⟩⟩
    · dsimp only; split
      · exact ⟨h.bins, h.level⟩
      · exact h
    · dsimp only; split
      · exact h.of_ring rfl rfl
      · exact h
  · exact .refl s

theorem exec_keeps {s t : State} (c : Instr) (h : exec c s = .next t) : Keeps s t := by
  have next : ∀ {u : State}, (Host.Outcome.next u : Host.Outcome State Fault Refusal) = .next t → Keeps s u →
      Keeps s t := by
    rintro u e k
    cases e
    exact k
  cases c with
  | fastFrame ibus iph pz => exact next h (fastFrame_keeps s ..)
  | slotEnd raw => exact next h (slotEnd_keeps s _)
  | scanCompletion => exact next h (scanCompletion_keeps s)
  | sleepScanStart => exact next h (sleepScanStart_keeps s)
  | alignTime => exact next h (alignEnd_keeps s)
  | openStepEnd => exact next h (openStepEnd_keeps s)
  | captureCommutation => exact next h (captureStep_keeps s)
  | retryDwell => exact next h (retryEnd_keeps s)
  | zeroCrossing phase dir => exact next h (crossing_keeps s ..)
  | scheduledCommutation => exact next h (commutate_keeps s)
  | lostSync => exact next h (lostSync_keeps s)
  | coastStop => exact next h (coastStop_keeps s)
  | rampStep => exact next h (rampTick_keeps s)
  | windowClose => exact next h (windowClose_keeps s)
  | bandBlank => exact next h (endBandBlank_keeps s)
  | rawInputChange control pressed => exact next h (rawChange_keeps s ..)
  | triggerPress => exact next h (trigPress_keeps s)
  | triggerRelease => exact next h (trigRelease_keeps s)
  | buttonPress => exact next h (btnPress_keeps s)
  | buttonRelease => exact next h (btnRelease_keeps s)
  | probeIntervalEnd => exact next h (probeInterval_keeps s)
  | openDwell => exact next h (endDwell_keeps s)
  | helloWait => exact next h (endHelloWait_keeps s)
  | silenceTime => exact next h (silence1000_keeps s)
  | dockLinkLost => exact next h (loseDock_keeps s)
  | phaseTimeLimit => exact next h (phaseLimit_keeps s)
  | carrierAssert => exact next h (carrierAssert_keeps s)
  | carrierDeassert => exact next h (carrierDeassert_keeps s)
  | characterComplete => exact next h (characterComplete_keeps s)
  | breakMark => exact next h (breakMark_keeps s)
  | contactEntryTaken => exact next h (entryTaken_keeps s)
  | replyWindowExpiry => exact next h (windowExpiry_keeps s)
  | transmissionEnd => exact next h (transmissionEnd_keeps s)
  | chassisCharacter byte good => exact next h (chassisCharacter_keeps s ..)
  | gap => exact next h (gap_keeps s)
  | chassisFrameSent => exact next h (frameSent_keeps s)
  | startUpWindow => exact next h (startUpEnd_keeps s)
  | unknownKind => exact next h (serveUnknown_keeps s)
  | ping => exact next h (serve_keeps s _ _ fun _ _ => .refl s)
  | status => exact next h (serve_keeps s _ _ fun _ _ => .refl s)
  | tableWrite => exact next h (serve_keeps s _ _ (serveTableWrite_keeps s))
  | tableRead => exact next h (serve_keeps s _ _ (serveTableRead_keeps s))
  | tableActivate => exact next h (serve_keeps s _ _ (serveTableActivate_keeps s))
  | tableDiscard => exact next h (serve_keeps s _ _ (serveTableDiscard_keeps s))
  | runPermit => exact next h (serve_keeps s _ _ (serveRunPermit_keeps s))
  | modeSet => exact next h (serve_keeps s _ _ (serveModeSet_keeps s))
  | keepalive => exact next h (serve_keeps s _ _ fun _ _ => keepAlive_keeps s)
  | keepaliveWindowExpiry => exact next h (keepExpiry_keeps s)
  | cause => exact next h (serve_keeps s _ _ (serveCause_keeps s))
  | clearTrip => exact next h (serve_keeps s _ _ (serveClearTrip_keeps s))
  | counts => exact next h (serve_keeps s _ _ (serveCounts_keeps s))
  | logWindow => exact next h (serve_keeps s _ _ (serveLogWindow_keeps s))
  | logNext => exact next h (serve_keeps s _ _ (serveLogNext_keeps s))
  | probe => exact next h (serve_keeps s _ _ (serveProbe_keeps s))
  | sleep => exact next h (serve_keeps s _ _ (serveSleep_keeps s))
  | ship => exact next h (serve_keeps s _ _ (serveShip_keeps s))
  | reset => exact next h (serve_keeps s _ _ fun _ _ => keeps_others s ..)
  | dockHello => exact next h (serve_keeps s _ _ (serveDockHello_keeps s))
  | dockPoll => exact next h (serve_keeps s _ _ fun _ _ => takePoll_keeps s ..)
  | sessionIdleTime => exact next h (sessionIdle_keeps s)
  | telemetryEmission => exact next h (telemetry_keeps s)
  | idleTimer => exact next h (idleExpiry_keeps s)
  | settleEnd => exact next h (settleEnd_keeps s)
  | resetLineChange high => exact next h (lineChange_keeps s _)
  | pinReset => exact next h (pinReset_keeps s)
  | chordReset => exact next h (chordReset_keeps s)
  | powerOnReset source => exact next h (powerOn_keeps s _)
  | receivedBitTime bit => exact next h (bitTime_keeps s _)
  | transmitStageEnd => exact next h (stageEnd_keeps s)
  | resetLineReturnHigh => exact next h (lineReturn_keeps s)

/-- A step is a command on the state with the queue's rest, or the passing of time. -/
theorem step_cases {s t : State} (h : step s = .next t) :
    (∃ c rest, s.pending = c :: rest ∧ exec c { s with pending := rest } = .next t) ∨
    (s.pending = [] ∧ t = s.advance s.idleSpan) := by
  unfold step at h
  split at h <;> rename_i front
  · exact .inl ⟨_, _, front, h⟩
  · cases h
    exact .inr ⟨front, rfl⟩

theorem step_keeps {s t : State} (h : step s = .next t) : Keeps s t := by
  obtain ⟨c, rest, _, run⟩ | ⟨_, rfl⟩ := step_cases h
  · exact (keeps_others s ..).trans (exec_keeps c run)
  · exact advance_keeps s _

end State
end Sys2Proof.Machine

namespace Sys2Proof.Proofs

open Sys2Proof.Machine

/-- Settles O57: the bounds are the charge unit's own, which every step keeps. -/
theorem everyStepKeepsTheChargeBounds : Obligations.EveryStepKeepsTheChargeBounds := by
  intro s t bounded run
  exact t.chargeBounded_iff.2 ((State.step_keeps run).charge (s.chargeBounded_iff.1 bounded))

/-- Settles O58: the bounds are those of the modem, the pending set and the ring, which every step keeps. -/
theorem everyStepKeepsTheBuffers : Obligations.EveryStepKeepsTheBuffers := by
  intro s t bounded run
  obtain ⟨modem, cause, log⟩ := s.buffersBounded_iff.1 bounded
  obtain ⟨lists, _⟩ := State.step_keeps run
  exact t.buffersBounded_iff.2 ⟨lists.modem modem, lists.cause cause, lists.log log⟩

/-- Settles O59: the shape is that of the acquisition and dirt units, which every step keeps. -/
theorem everyStepKeepsTheShape : Obligations.EveryStepKeepsTheShape := by
  intro s t shaped run
  obtain ⟨acq, dirt⟩ := s.shaped_iff.1 shaped
  obtain ⟨lists, _⟩ := State.step_keeps run
  exact t.shaped_iff.2 ⟨lists.acq acq, lists.dirt dirt⟩

end Sys2Proof.Proofs

/-! A sample that changes no saturation flag and no side condition changes its channel's value and debounce counts alone
(01 R4, R7). -/

namespace Sys2Proof.Machine

theorem set_getD_self {α : Type} (xs : List α) (i : Nat) (d : α) : xs.set i (xs.getD i d) = xs := by
  by_cases h : i < xs.length
  · rw [List.getD_eq_getElem _ _ h, List.set_getElem_self]
  · exact List.set_eq_of_length_le (by omega)

theorem channelKind?_zero : channelKind? 0 = none := rfl

namespace State

/-- A channel's value and debounce counts replaced. -/
def withChannel (s : State) (ch : Nat) (v : Int) (low high : Nat) : State :=
  { s with acq := { s.acq with
      latest := s.acq.latest.set ch v, lowCount := s.acq.lowCount.set ch low,
      highCount := s.acq.highCount.set ch high } }

/-- A flag stored as it stands changes the latest value alone. -/
theorem storeSample_of_same {s : State} {ch : Nat} {b : Bool} (v : Int) (same : s.acq.sat.getD ch false = b) :
    s.storeSample ch v b = { s with acq := { s.acq with latest := s.acq.latest.set ch v } } := by
  have flags : s.acq.sat.set ch b = s.acq.sat := same ▸ set_getD_self ..
  unfold storeSample
  simp only [flags, if_true]

/-- A side stored with the condition that it has changes its count alone. -/
theorem setSide_of_same (s : State) (ch : Nat) (high : Bool) (n : Nat) :
    s.setSide ch high n (s.sideOn ch high) = { s with acq := { s.acq with
      lowCount := if high then s.acq.lowCount else s.acq.lowCount.set ch n,
      highCount := if high then s.acq.highCount.set ch n else s.acq.highCount } } := by
  cases high <;> simp [setSide, sideOn, -List.getD_eq_getElem?_getD, set_getD_self]

/-- A side that keeps its condition changes at most its count. -/
theorem checkSide_of_same {s : State} {ch : Nat} {high : Bool} {v : Int} (same : s.sideChanges ch high v = false) :
    ∃ n, s.checkSide ch high v = s.setSide ch high n (s.sideOn ch high) := by
  unfold checkSide
  split <;> rename_i kind
  · refine ⟨s.sideCount ch high, ?_⟩
    rw [setSide_of_same]
    cases high <;> simp [sideCount, -List.getD_eq_getElem?_getD, set_getD_self]
  · have named : s.sideCause ch high ≠ 0 := by
      intro zero
      rw [zero, channelKind?_zero] at kind
      cases kind
    simp only [sideChanges, named, ne_eq, not_false_eq_true, decide_true, Bool.true_and] at same
    split <;> rename_i past
    · simp only [past, if_true, Bool.and_eq_false_iff, Bool.not_eq_false', decide_eq_false_iff_not] at same
      refine ⟨min (s.debounce ch) (s.sideCount ch high + 1), ?_⟩
      have on : (s.sideOn ch high || decide (s.debounce ch ≤ min (s.debounce ch) (s.sideCount ch high + 1))) =
          s.sideOn ch high := by
        rcases same with held | below
        · simp [held]
        · have : ¬ s.debounce ch ≤ min (s.debounce ch) (s.sideCount ch high + 1) := by omega
          simp [this]
      simp only [on, Bool.and_not_self, Bool.false_eq_true, if_false]
    · rw [if_neg past] at same
      exact ⟨0, by simp [same]⟩

/-- A sample that changes neither flag nor side. -/
theorem takeSample_of_same {s : State} {ch raw : Nat} (same : s.sampleChanges ch raw = false) :
    ∃ low high, s.takeSample ch raw = s.withChannel ch (convert (s.channelEntry ch) raw) low high := by
  unfold sampleChanges at same
  simp only [Bool.or_eq_false_iff, decide_eq_false_iff_not, ne_eq, not_not] at same
  obtain ⟨⟨flag, lowSame⟩, highSame⟩ := same
  unfold takeSample; dsimp only
  rw [storeSample_of_same _ flag]
  generalize hv : convert (s.channelEntry ch) raw = v at *
  generalize hu : ({ s with acq := { s.acq with latest := s.acq.latest.set ch v } } : State) = u
  have lowSame' : u.sideChanges ch false v = false := by rw [← hu]; exact lowSame
  have highSame' : u.sideChanges ch true v = false := by rw [← hu]; exact highSame
  unfold checkSides
  rw [lowSame', Bool.false_and, if_neg Bool.false_ne_true]
  obtain ⟨low, checkedLow⟩ := checkSide_of_same lowSame'
  rw [checkedLow, setSide_of_same]
  generalize hw : ({ u with acq := { u.acq with
    lowCount := if false = true then u.acq.lowCount else u.acq.lowCount.set ch low,
    highCount := if false = true then u.acq.highCount.set ch low else u.acq.highCount } } : State) = w
  have highSame'' : w.sideChanges ch true v = false := by rw [← hw]; exact highSame'
  obtain ⟨high, checkedHigh⟩ := checkSide_of_same highSame''
  rw [checkedHigh, setSide_of_same]
  refine ⟨low, high, ?_⟩
  subst hw hu
  rfl

/-- What a channel's samples change is read from that channel's own places. -/
theorem sampleChanges_withChannel (s : State) {ch c : Nat} (h : ch ≠ c) (v : Int) (low high raw : Nat) :
    (s.withChannel ch v low high).sampleChanges c raw = s.sampleChanges c raw := by
  have counts : ∀ side, (s.withChannel ch v low high).sideCount c side = s.sideCount c side := fun side => by
    cases side <;> exact getD_set_ne _ _ _ _ _ h
  have sides : ∀ side x, (s.withChannel ch v low high).sideChanges c side x = s.sideChanges c side x := fun side x => by
    unfold sideChanges
    rw [counts]
    rfl
  unfold sampleChanges; dsimp only
  rw [sides, sides]
  rfl

/-- A frame that changes no flag and no side condition changes the acquisition unit alone. -/
theorem takeFast_of_same {s : State} {ibus iph pz : Nat} (same : s.frameChanges ibus iph pz = false) :
    ∃ a, s.takeFast ibus iph pz = { s with acq := a } := by
  unfold frameChanges at same
  simp only [Bool.or_eq_false_iff] at same
  obtain ⟨⟨same0, same1⟩, same2⟩ := same
  unfold takeFast
  simp only [same0, same1, same2, Bool.false_and, Bool.or_false, Bool.false_eq_true, if_false]
  obtain ⟨l0, h0, e0⟩ := takeSample_of_same same0
  rw [e0]
  rw [← sampleChanges_withChannel s (by decide : 0 ≠ 1) (convert (s.channelEntry 0) ibus) l0 h0] at same1
  rw [← sampleChanges_withChannel s (by decide : 0 ≠ 2) (convert (s.channelEntry 0) ibus) l0 h0] at same2
  obtain ⟨l1, h1, e1⟩ := takeSample_of_same same1
  rw [e1]
  rw [← sampleChanges_withChannel _ (by decide : 1 ≠ 2) _ l1 h1] at same2
  obtain ⟨l2, h2, e2⟩ := takeSample_of_same same2
  rw [e2]
  exact ⟨_, rfl⟩

end State
end Sys2Proof.Machine

/-! The queue, the passing of time, and the state after reset (log 1, 11 R189). -/

namespace Sys2Proof.Machine

/-- Every arm of the dispatch answers with a state. -/
theorem exec_goesOn (c : Instr) (s : State) : goesOn (exec c s) := by cases c <;> exact ⟨_, rfl⟩

theorem phaseRuns_iff (c : Charge) :
    c.phaseRuns = true ↔ c.session.map (·.faulted) = some false ∧ 0 < c.cap := by
  unfold Charge.phaseRuns
  cases c.session <;> simp

theorem anyMark_iff (xs : List Bool) : anyMark xs = true ↔ true ∈ xs := by simp [anyMark]

theorem isHeld_iff {α : Type} (x : Option α) : isHeld x = true ↔ x ≠ none := by cases x <;> simp [isHeld]

theorem cleanOpen_iff (l : Log) : l.cleanOpen = true ↔ l.session.map (·.kind) = some .clean := by
  unfold Log.cleanOpen
  cases l.session <;> simp

/-- The times of a session of either kind, each with its own condition. -/
theorem Session.advance_eq (a : Session) (dt : Nat) (running : Bool) (mode : Mode) :
    a.advance dt running mode = { a with
      runTime := if a.kind = .clean ∧ running = true then a.runTime + dt else a.runTime,
      ecoTime := if a.kind = .clean ∧ mode = .eco then a.ecoTime + dt else a.ecoTime,
      autoTime := if a.kind = .clean ∧ mode = .auto then a.autoTime + dt else a.autoTime,
      boostTime := if a.kind = .clean ∧ mode = .boost then a.boostTime + dt else a.boostTime } := by
  unfold Session.advance
  by_cases clean : a.kind = .clean <;> simp [clean]

theorem Charge.advance_eq (c : Charge) (dt : Nat) (awake : Bool) :
    c.advance dt awake = { c with
      dwell := c.dwell.map (· - dt),
      mismatch := c.mismatch.advance dt,
      helloWait := if awake then c.helloWait.map (· - dt) else c.helloWait,
      silence := if awake then c.silence.map (· + dt) else c.silence,
      phaseTime := if awake = true ∧ c.session.map (·.faulted) = some false ∧ 0 < c.cap then c.phaseTime + dt
        else c.phaseTime,
      bleedTime := if c.session ≠ none ∧ true ∈ c.bleed then c.bleedTime + dt else c.bleedTime } := by
  have phase : (awake && c.phaseRuns) = true ↔ awake = true ∧ c.session.map (·.faulted) = some false ∧ 0 < c.cap := by
    rw [Bool.and_eq_true, phaseRuns_iff]
  have bleeds : (isHeld c.session && anyMark c.bleed) = true ↔ c.session ≠ none ∧ true ∈ c.bleed := by
    rw [Bool.and_eq_true, isHeld_iff, anyMark_iff]
  unfold Charge.advance
  simp only [phase, bleeds]
  rfl

theorem Log.advance_eq (l : Log) (dt : Nat) (motor : MotorState) (mode : Mode) :
    l.advance dt motor mode = { l with
      session := l.session.map fun a => { a with
        runTime := if a.kind = .clean ∧ motor = .run then a.runTime + dt else a.runTime,
        ecoTime := if a.kind = .clean ∧ mode = .eco then a.ecoTime + dt else a.ecoTime,
        autoTime := if a.kind = .clean ∧ mode = .auto then a.autoTime + dt else a.autoTime,
        boostTime := if a.kind = .clean ∧ mode = .boost then a.boostTime + dt else a.boostTime },
      idleTime := if l.session.map (·.kind) = some .clean ∧ motor = .stopped then l.idleTime + dt
        else l.idleTime } := by
  have idle : (l.cleanOpen && decide (motor = .stopped)) = true ↔
      l.session.map (·.kind) = some .clean ∧ motor = .stopped := by
    rw [Bool.and_eq_true, cleanOpen_iff, decide_eq_true_iff]
  unfold Log.advance
  simp only [Session.advance_eq, idle, decide_eq_true_iff]

end Sys2Proof.Machine

namespace Sys2Proof.Proofs

open Sys2Proof.Machine

/-- Settles O1. -/
theorem stepRunsFrontCommand : Obligations.StepRunsFrontCommand := fun _ _ _ => rfl

/-- Settles O3. -/
theorem everyCommandGoesOn : Obligations.EveryCommandGoesOn := fun c s => exec_goesOn c s

/-- Settles O2: the charge unit's and the log's times with their conditions spelled out; the other timers of `advance`
read as in the statement. -/
theorem emptyQueueLetsTimePass : Obligations.EmptyQueueLetsTimePass := by
  intro s empty
  have idle : step s = .next (s.advance s.idleSpan) := by unfold step; rw [empty]
  rw [idle]
  refine ⟨fun stopped => ?_, fun live => ?_⟩
  · unfold State.advance
    rw [stopped, if_neg Bool.false_ne_true]
  · unfold State.advance
    rw [live, if_pos rfl, Charge.advance_eq, Log.advance_eq]
    cases s.awake <;> simp only [decide_eq_true_eq] <;> rfl

/-- Settles O39. -/
theorem timersThatOnlyEnd : Obligations.TimersThatOnlyEnd := by
  refine ⟨fun s due => ?_, fun s => ⟨fun live inFrame late => ?_, fun due => ?_⟩⟩
  · exact congrArg Host.Outcome.next (if_pos due)
  · have collecting : s.inFrame .chassis = true := decide_eq_true inFrame
    have due : (s.live && s.inFrame .chassis && decide (ticksOfUs 100 < s.frame.gapTime)) = true := by
      simp [live, collecting, late]
    exact congrArg Host.Outcome.next (if_pos due)
  · exact congrArg Host.Outcome.next (if_pos due)

/-- Settles O60: a power-on reset of the reset state gives it again by evaluation; the invariants hold of each block at
its reset value. -/
theorem resetState : Obligations.ResetState := by
  refine ⟨rfl, ⟨?_, ?_, ?_, ?_⟩, ?_, ?_, ?_⟩
  · intro drives; cases drives
  · intro demand; cases demand
  · intro _; rfl
  · intro runs; exact absurd rfl runs
  · exact State.reset.chargeBounded_iff.2 .reset
  · exact State.reset.buffersBounded_iff.2 ⟨.of_empty rfl rfl, .reset, .reset⟩
  · exact State.reset.shaped_iff.2 ⟨.reset, ⟨rfl, Nat.zero_le 3⟩⟩

end Sys2Proof.Proofs

/-! A timer command that comes before its time changes nothing (log 2). -/

namespace Sys2Proof.Machine
namespace State

variable {s : State}

/-! ### Sample traffic -/

theorem scanCompletion_of_notDue (h : s.completionDue = false) : s.scanCompletion = s :=
  if_neg (Bool.eq_false_iff.1 h)

theorem slotEnd_of_notDue (raw : Nat) (h : s.slotDue = false) : s.slotEnd raw = s := if_neg (Bool.eq_false_iff.1 h)

theorem fastFrame_of_notDue (ibus iph pz : Nat) (h : s.frameDue = false) : s.fastFrame ibus iph pz = s :=
  if_neg (Bool.eq_false_iff.1 h)

theorem sleepScanStart_of_notDue (h : s.sleepScanDue = false) : s.sleepScanStart = s := if_neg (Bool.eq_false_iff.1 h)

/-! ### Drive unit -/

theorem captureStep_of_notDue (h : s.captureDue = false) : s.captureStep = s := if_neg (Bool.eq_false_iff.1 h)

theorem captureDue_of_motor (h : s.drive.motor ≠ .capture) : s.captureDue = false := by simp [captureDue, h]

theorem captureDue_of_stepTime (comms : s.drive.capComms ≠ 0) (early : s.drive.stepTime < 12 * s.drive.tCap) :
    s.captureDue = false := by
  simp [captureDue, comms, ticksOfUs, early]

theorem captureDue_of_nextComm (comms : s.drive.capComms = 0) (none : s.drive.nextComm ≠ some 0) :
    s.captureDue = false := by
  simp [captureDue, comms, none]

theorem rampTick_of_early (h : s.drive.rampTime < 12000) : s.rampTick = s := if_neg (by simp [ticksOfMs, h])

/-! ### Operator inputs -/

theorem trigDue_of_early (pressed : Bool) (h : s.plan.trigTime < 12000 * 20) : s.trigDue pressed = false := by
  simp [trigDue, ticksOfMs]; omega

theorem btnDue_of_early (pressed : Bool) (h : s.plan.btnTime < 12000 * 20) : s.btnDue pressed = false := by
  simp [btnDue, ticksOfMs]; omega

theorem trigPress_of_notDue (h : s.trigDue true = false) : s.trigPress = s := if_neg (Bool.eq_false_iff.1 h)

theorem trigRelease_of_notDue (h : s.trigDue false = false) : s.trigRelease = s := if_neg (Bool.eq_false_iff.1 h)

theorem btnPress_of_notDue (h : s.btnDue true = false) : s.btnPress = s := if_neg (Bool.eq_false_iff.1 h)

theorem btnRelease_of_notDue (h : s.btnDue false = false) : s.btnRelease = s := if_neg (Bool.eq_false_iff.1 h)

/-! ### The probe's intervals -/

theorem probeInterval_of_idle (h : s.pack.probe = .idle) : s.probeInterval = s := by unfold probeInterval; rw [h]

theorem probeInterval_of_pulse {k : Nat} (h : s.pack.probe = .pulse k) (early : s.pack.probeTime < 12000 * 100) :
    s.probeInterval = s := by
  unfold probeInterval; rw [h]
  exact if_neg (by unfold ticksOfMs; omega)

theorem probeInterval_of_rest {k : Nat} (h : s.pack.probe = .rest k) (early : s.pack.probeTime < 12000 * 200) :
    s.probeInterval = s := by
  unfold probeInterval; rw [h]
  exact if_neg (by unfold ticksOfMs; omega)

theorem probeInterval_of_early (early : s.pack.probeTime < 12000 * 100) : s.probeInterval = s := by
  cases probe : s.pack.probe with
  | idle => exact probeInterval_of_idle probe
  | pulse k => exact probeInterval_of_pulse probe early
  | rest k => exact probeInterval_of_rest probe (by omega)

/-! ### Phase time limit -/

theorem phaseLimit_of_notRunning (h : s.runningPhase = none) : s.phaseLimit = s := by unfold phaseLimit; rw [h]

theorem phaseLimit_of_notReached {p : Nat} (h : s.runningPhase = some p) (early : s.limitReached p = false) :
    s.phaseLimit = s := by
  unfold phaseLimit; rw [h]
  exact if_neg (Bool.eq_false_iff.1 early)

/-! ### Contact modem -/

theorem carrierAssert_of_notDue (h : s.modem.assertDue = false) : s.carrierAssert = s := if_neg (by simp [h])

theorem carrierDeassert_of_notDue (h : s.modem.deassertDue = false) : s.carrierDeassert = s := if_neg (by simp [h])

theorem characterComplete_of_none (h : s.modem.fullCharacter = none) : s.characterComplete = s := by
  unfold characterComplete; rw [h]

theorem breakMark_of_notDue (h : s.modem.breakMarkDue = false) : s.breakMark = s := if_neg (by simp [h])

theorem windowExpiry_of_time (h : ∀ period, s.modem.window ≠ some (period, 0)) : s.windowExpiry = s := by
  unfold windowExpiry
  split
  · rename_i w open'
    exact if_neg fun over' => h w.1 (by rw [open', ← over'])
  · rfl

theorem stageEnd_of_idle (h : s.modem.tx = none) : s.stageEnd = s := by unfold stageEnd; rw [h]

theorem transmissionEnd_of_idle (h : s.modem.tx = none) : s.transmissionEnd = s := by unfold transmissionEnd; rw [h]

theorem stageEnd_of_early {x : ContactTx} (h : s.modem.tx = some x) (early : x.stageOver = false) : s.stageEnd = s := by
  unfold stageEnd; rw [h]
  exact if_neg (Bool.eq_false_iff.1 early)

/-- The end of the postamble has its own command. -/
theorem stageEnd_of_postamble {x : ContactTx} (h : s.modem.tx = some x) (stage : x.stage = .postamble) :
    s.stageEnd = s := by
  unfold stageEnd; rw [h]; dsimp only; rw [stage]
  split <;> rfl

theorem transmissionEnd_of_early {x : ContactTx} (h : s.modem.tx = some x)
    (early : x.stage ≠ .postamble ∨ x.stageOver = false) : s.transmissionEnd = s := by
  unfold transmissionEnd; rw [h]
  refine if_neg fun ⟨stage, ended⟩ => ?_
  rcases early with other | early
  · exact other stage
  · rw [early] at ended; cases ended

/-! ### Frame unit -/

theorem frameSent_of_idle (h : s.frame.sending = none) : s.frameSent = s := by unfold frameSent; rw [h]

theorem frameSent_of_early {f : TxFrame} {time : Nat} (h : s.frame.sending = some (f, time)) (early : time < f.ticks) :
    s.frameSent = s := by
  unfold frameSent; rw [h]
  exact if_neg (by simp [early])

theorem gap_of_early (h : s.frame.gapTime ≤ 12 * 100) : s.gap = s := if_neg (by simp [ticksOfUs, h])

theorem telemetry_of_notDue (h : s.frame.telTimer ≠ some 0) : s.telemetry = s := if_neg (by simp [h])

/-! ### Log and power -/

theorem sessionIdle_of_early (h : s.log.idleTime < 12000 * 600000) : s.sessionIdle = s :=
  if_neg (by simp [ticksOfMs]; omega)

theorem lineReturn_of_early (h : s.power.lineBack < 12 * 5) : s.lineReturn = s := if_neg (by simp [ticksOfUs]; omega)

end State
end Sys2Proof.Machine

namespace Sys2Proof.Proofs

open Sys2Proof.Machine

/-- Settles O4, command by command: what makes each act does not hold. -/
theorem timersNotDueChangeNothing : Obligations.TimersNotDueChangeNothing := by
  intro s
  have same : ∀ {u : State}, u = s → (.next u : Host.Outcome State Fault Refusal) = .next s := congrArg _
  have nothing : ∀ {p : Prop} [Decidable p] {u : State}, ¬p →
      (.next (if p then u else s) : Host.Outcome State Fault Refusal) = .next s := fun h => same (if_neg h)
  refine ⟨?_, ?_, ?_, ?_, ?_, ?_, ?_, ?_, ?_, ?_, ?_, ?_, ?_, ?_, ?_, ?_, ?_, ?_, ?_, ?_, ?_, ?_, ?_, ?_, ?_, ?_, ?_, ?_,
    ?_, ?_, ?_, ?_, ?_, ?_, ?_, ?_, ?_, ?_, ?_, ?_, ?_, ?_, ?_, ?_, ?_, ?_, ?_, ?_, ?_, ?_, ?_⟩
  · exact fun h => same (State.scanCompletion_of_notDue (by simp [State.completionDue, h]))
  · exact fun raw h => same (State.slotEnd_of_notDue raw (by simp [State.slotDue]; omega))
  · exact fun ibus iph pz h => same (State.fastFrame_of_notDue ibus iph pz (by simp [State.frameDue]; omega))
  · exact fun h => same (State.sleepScanStart_of_notDue (by simp [State.sleepScanDue, ticksOfMs]; omega))
  · exact fun h => nothing fun ⟨_, late⟩ => Nat.not_le_of_lt h late
  · exact fun h => nothing fun ⟨_, late⟩ => Nat.not_le_of_lt h late
  · exact fun comms h => same (State.captureStep_of_notDue (State.captureDue_of_stepTime comms h))
  · exact fun comms h => same (State.captureStep_of_notDue (State.captureDue_of_nextComm comms h))
  · exact fun h => nothing fun ⟨motor, _⟩ => h motor
  · exact fun h => nothing fun ⟨motor, _⟩ => h motor
  · exact fun h => same (State.captureStep_of_notDue (State.captureDue_of_motor h))
  · exact fun h => ⟨nothing fun ⟨motor, _⟩ => h motor, nothing fun ⟨motor, _⟩ => h motor⟩
  · exact fun h => nothing fun ⟨motor, _⟩ => h motor
  · exact fun h => nothing h
  · exact fun h => nothing fun ⟨_, due⟩ => h due
  · exact fun h => nothing fun ⟨_, late⟩ => by unfold ticksOfUs at late; omega
  · exact fun h => nothing fun ⟨_, late⟩ => Nat.not_le_of_lt h late
  · exact fun h => same (State.rampTick_of_early h)
  · exact fun h => nothing (by simp [State.windowDue, h])
  · exact fun h => nothing h
  · exact fun h => ⟨same (State.trigPress_of_notDue (State.trigDue_of_early true h)),
      same (State.trigRelease_of_notDue (State.trigDue_of_early false h))⟩
  · exact fun h => ⟨same (State.btnPress_of_notDue (State.btnDue_of_early true h)),
      same (State.btnRelease_of_notDue (State.btnDue_of_early false h))⟩
  · exact fun h => same (State.probeInterval_of_early h)
  · exact fun k probe h => same (State.probeInterval_of_rest probe h)
  · exact fun h => same (State.probeInterval_of_idle h)
  · exact fun h => nothing h
  · exact fun h => nothing (by simp [h])
  · exact fun h => nothing (Bool.eq_false_iff.1 h)
  · exact fun h => nothing (Bool.eq_false_iff.1 h)
  · exact fun p running h => same (State.phaseLimit_of_notReached running (by simp [State.limitReached, ticksOfS]; omega))
  · exact fun p running h => same (State.phaseLimit_of_notReached running (by simp [State.limitReached, h]))
  · exact fun h => same (State.phaseLimit_of_notRunning h)
  · exact fun h => same (State.carrierAssert_of_notDue (by simp [Modem.assertDue]; omega))
  · exact fun h => same (State.carrierDeassert_of_notDue (by simp [Modem.deassertDue]; omega))
  · exact fun h => same (State.characterComplete_of_none h)
  · exact fun h => same (State.breakMark_of_notDue (by simp [Modem.breakMarkDue]; omega))
  · exact fun h => same (State.windowExpiry_of_time h)
  · exact fun h => ⟨same (State.stageEnd_of_idle h), same (State.transmissionEnd_of_idle h)⟩
  · refine fun x sending => ⟨fun stage h => ?_, fun stage h => ?_, fun stage => ?_, fun h => ?_⟩
    · exact same (State.stageEnd_of_early sending (by simp [ContactTx.stageOver, ContactTx.bits, stage]; omega))
    · exact same (State.stageEnd_of_early sending (by simp [ContactTx.stageOver, ContactTx.bits, stage]; omega))
    · exact same (State.stageEnd_of_postamble sending stage)
    · refine same (State.transmissionEnd_of_early sending ?_)
      by_cases stage : x.stage = .postamble
      · refine .inr ?_
        have early := h.resolve_left (fun other => other stage)
        simp [ContactTx.stageOver, ContactTx.bits, stage]; omega
      · exact .inl stage
  · exact fun h => same (State.frameSent_of_idle h)
  · exact fun f time sending h => same (State.frameSent_of_early sending h)
  · exact fun h => same (State.gap_of_early h)
  · exact fun h => nothing h
  · exact fun h => same (State.telemetry_of_notDue h)
  · exact fun h => same (State.sessionIdle_of_early h)
  · exact fun h => nothing (by simp [h])
  · exact fun h => nothing (by simp [h])
  · exact fun h => nothing (by simp [h])
  · exact fun h => nothing (by simp [h])
  · exact fun h => nothing (by simp [h])
  · exact fun h => same (State.lineReturn_of_early h)

end Sys2Proof.Proofs

/-! The drive unit's periodic work: the ramp's tick and what a fast frame does to the drive unit (02 R26, R37, R39,
R42). -/

namespace Sys2Proof.Machine
namespace State

/-! ### Fast frames -/

/-- The duty that current holding gives (02 R26). -/
def heldDuty (s : State) (target ibus : Int) : Nat :=
  if ibus < target then min s.dutyMax (s.drive.duty + s.foldbackStep)
  else if target < ibus then s.drive.duty - s.foldbackStep
  else s.drive.duty

/-- L_m (02 R39). -/
def frameLimit (s : State) : Nat := min s.pack.budget s.iMax

/-- The drive unit after a fast frame: current holding in a start and in a probe pulse, foldback in RUN. -/
def framedDrive (s : State) (ibus : Int) : Drive :=
  if s.drive.motor = .align ∨ s.drive.motor = .rampOpen ∨ s.drive.motor = .capture then
    { s.drive with lM := s.frameLimit, duty := s.heldDuty s.alignCurrent ibus }
  else if s.drive.motor = .probe ∧ s.inPulse = true then
    { s.drive with lM := s.frameLimit, duty := s.heldDuty probeCurrent ibus }
  else if s.drive.motor = .run ∧ (s.frameLimit : Int) < ibus then
    { s.drive with
      lM := s.frameLimit, duty := s.foldedDuty, integ := ((s.foldedDuty : Int) - s.drive.pLast) * 65536,
      hold := some s.foldedDuty, foldMark := true }
  else { s.drive with lM := s.frameLimit }

section
variable {s : State} {ibus : Int}

theorem framedDrive_of_start (h : s.drive.motor = .align ∨ s.drive.motor = .rampOpen ∨ s.drive.motor = .capture) :
    s.framedDrive ibus = { s.drive with lM := s.frameLimit, duty := s.heldDuty s.alignCurrent ibus } := if_pos h

theorem framedDrive_of_pulse (motor : s.drive.motor = .probe) (pulse : s.inPulse = true) :
    s.framedDrive ibus = { s.drive with lM := s.frameLimit, duty := s.heldDuty probeCurrent ibus } :=
  (if_neg (by simp [motor])).trans (if_pos ⟨motor, pulse⟩)

theorem framedDrive_of_above (motor : s.drive.motor = .run) (above : (s.frameLimit : Int) < ibus) :
    s.framedDrive ibus = { s.drive with
      lM := s.frameLimit, duty := s.foldedDuty, integ := ((s.foldedDuty : Int) - s.drive.pLast) * 65536,
      hold := some s.foldedDuty, foldMark := true } :=
  (if_neg (by simp [motor])).trans ((if_neg (by simp [motor])).trans (if_pos ⟨motor, above⟩))

theorem framedDrive_of_rest (motor : s.drive.motor = .probe) (rest : s.inPulse ≠ true) :
    s.framedDrive ibus = { s.drive with lM := s.frameLimit } :=
  (if_neg (by simp [motor])).trans ((if_neg fun h => rest h.2).trans (if_neg (by simp [motor])))

theorem framedDrive_of_within (motor : s.drive.motor = .run) (within : ¬ (s.frameLimit : Int) < ibus) :
    s.framedDrive ibus = { s.drive with lM := s.frameLimit } :=
  (if_neg (by simp [motor])).trans ((if_neg (by simp [motor])).trans (if_neg fun h => within h.2))

theorem framedDrive_of_off (off : s.drive.motor = .stopped ∨ s.drive.motor = .coast ∨ s.drive.motor = .lockout) :
    s.framedDrive ibus = { s.drive with lM := s.frameLimit } := by
  refine (if_neg ?_).trans ((if_neg ?_).trans (if_neg ?_)) <;> rcases off with h | h | h <;> simp [h]

end

theorem driveFrame_eq (s : State) (ibus : Int) : s.driveFrame ibus = { s with drive := s.framedDrive ibus } := by
  unfold driveFrame
  dsimp only
  split <;> rename_i motor
  · rw [framedDrive_of_start (s := s) (.inl motor)]; rfl
  · rw [framedDrive_of_start (s := s) (.inr (.inl motor))]; rfl
  · rw [framedDrive_of_start (s := s) (.inr (.inr motor))]; rfl
  · split <;> rename_i pulse
    · rw [framedDrive_of_pulse (s := s) motor pulse]; rfl
    · rw [framedDrive_of_rest (s := s) motor pulse]; rfl
  · split <;> rename_i above
    · rw [framedDrive_of_above (s := s) motor above]; rfl
    · rw [framedDrive_of_within (s := s) motor above]; rfl
  · rw [framedDrive_of_off (s := s) (.inl motor)]; rfl
  · rw [framedDrive_of_off (s := s) (.inr (.inl motor))]; rfl
  · rw [framedDrive_of_off (s := s) (.inr (.inr motor))]; rfl

/-- The ramp's figure stays in a fast frame. -/
theorem framedDrive_sT (s : State) (ibus : Int) : (s.framedDrive ibus).sT = s.drive.sT := by
  unfold framedDrive
  split_ifs <;> rfl

/-- The drive unit reads no sample but the frame's. -/
theorem framedDrive_withAcq (s : State) (a : Acq) (ibus : Int) :
    ({ s with acq := a } : State).framedDrive ibus = s.framedDrive ibus := rfl

/-- A duty that RUN keeps to is folded back no further than duty_min. -/
theorem foldedDuty_of_le {s : State} (h : s.dutyMin ≤ s.drive.duty) :
    s.foldedDuty = max s.dutyMin (s.drive.duty - s.foldbackStep) := by
  unfold foldedDuty; omega

/-! ### The ramp -/

theorem rampTick_of_due {s : State} (awake : s.awake = true) (due : 12000 ≤ s.drive.rampTime) :
    s.rampTick = { s with drive := { s.drive with
      rampTime := s.drive.rampTime % 12000,
      sT := if s.drive.motor = .run then s.rampedTarget else s.drive.sT } } :=
  if_pos (by simp [awake, due])

end State
end Sys2Proof.Machine

namespace Sys2Proof.Proofs

open Sys2Proof.Machine

/-- Settles O17. -/
theorem rampAndCurrentHolding : Obligations.RampAndCurrentHolding := by
  refine ⟨fun s awake due => ?_, fun s ibus => ?_⟩
  · have tick : exec .rampStep s = .next s.rampTick := rfl
    rw [tick, State.rampTick_of_due awake due]
    exact ⟨fun run => by rw [if_pos run]; rfl, fun other => by rw [if_neg other]⟩
  · have drive : ∀ {d : Drive}, s.framedDrive ibus = d → s.driveFrame ibus = { s with drive := d } := fun e =>
      e ▸ State.driveFrame_eq s ibus
    refine ⟨fun starting => ?_, fun k motor pulse => ?_, fun k motor rest => ?_, fun motor kept above => ?_,
      fun motor within => ?_, fun off => ?_⟩
    · exact drive (State.framedDrive_of_start starting)
    · exact drive (State.framedDrive_of_pulse motor (by unfold State.inPulse; rw [pulse]))
    · exact drive (State.framedDrive_of_rest motor (by unfold State.inPulse; rw [rest]; exact Bool.false_ne_true))
    · rw [← State.foldedDuty_of_le kept]
      exact drive (State.framedDrive_of_above motor above)
    · exact drive (State.framedDrive_of_within motor (Int.not_lt.2 within))
    · exact drive (State.framedDrive_of_off off)

end Sys2Proof.Proofs

/-! A fast frame (01 R1, R15): what its samples, the drive unit and the dirt unit each do to the state. -/

namespace Sys2Proof.Machine
namespace State

/-! ### Several samples -/

/-- A list after the values of some channels have been set, in the order of their samples. -/
def setAll {α : Type} (xs : List α) (v : Nat × Nat → α) (ps : List (Nat × Nat)) : List α :=
  ps.foldl (fun l p => l.set p.1 (v p)) xs

theorem foldl_takeSample_acq (ps : List (Nat × Nat)) (s : State) :
    samples (ps.foldl (fun t p => t.takeSample p.1 p.2) s).acq =
      samples { s.acq with
        latest := setAll s.acq.latest (fun p => convert (s.channelEntry p.1) p.2) ps,
        sat := setAll s.acq.sat (fun p => saturated p.2) ps } ∧
    (ps.foldl (fun t p => t.takeSample p.1 p.2) s).quiet = s.quiet := by
  induction ps generalizing s with
  | nil => exact ⟨rfl, rfl⟩
  | cons p ps ih =>
    obtain ⟨acq, quiet⟩ := takeSample_acq s p.1 p.2
    obtain ⟨ihAcq, ihQuiet⟩ := ih (s.takeSample p.1 p.2)
    have latest := samples_latest acq
    have sat : (s.takeSample p.1 p.2).acq.sat = s.acq.sat.set p.1 (saturated p.2) := congrArg Acq.sat acq
    refine ⟨ihAcq.trans ?_, ihQuiet.trans quiet⟩
    simp only [quiet_entry quiet, latest, sat]
    exact congrArg (fun a : Acq => { a with
      latest := setAll s.acq.latest (fun q => convert (s.channelEntry q.1) q.2) (p :: ps),
      sat := setAll s.acq.sat (fun q => saturated q.2) (p :: ps) }) acq

/-- In whatever order three samples of different channels are taken, each has its place. -/
theorem setAll_orderOfThree {α : Type} (n : Nat) (xs : List α) (v : Nat × Nat → α) (a b c : Nat × Nat)
    (ab : a.1 ≠ b.1) (ac : a.1 ≠ c.1) (bc : b.1 ≠ c.1) :
    setAll xs v (orderOfThree n a b c) = ((xs.set a.1 (v a)).set b.1 (v b)).set c.1 (v c) := by
  unfold orderOfThree setAll
  split <;> simp only [List.foldl]
  · rw [List.set_comm _ _ bc]
  · rw [List.set_comm _ _ ab]
  · rw [List.set_comm (v c) (v a) ac.symm, List.set_comm (v b) (v a) ab.symm]
  · rw [List.set_comm (v c) (v a) ac.symm, List.set_comm (v c) (v b) bc.symm]
  · rw [List.set_comm (v c) (v b) bc.symm, List.set_comm (v c) (v a) ac.symm, List.set_comm (v b) (v a) ab.symm]

/-- The three samples of a fast frame, in either order. -/
theorem takeFast_acq (s : State) (ibus iph pz : Nat) :
    samples (s.takeFast ibus iph pz).acq = samples { s.acq with
      latest := ((s.acq.latest.set 0 (convert (s.channelEntry 0) ibus)).set 1
        (convert (s.channelEntry 1) iph)).set 2 (convert (s.channelEntry 2) pz),
      sat := ((s.acq.sat.set 0 (saturated ibus)).set 1 (saturated iph)).set 2 (saturated pz) } ∧
    (s.takeFast ibus iph pz).quiet = s.quiet := by
  unfold takeFast
  dsimp only
  split
  · obtain ⟨acq, quiet⟩ := foldl_takeSample_acq
      (orderOfThree (Config.freeOrder s.freeCtr) (0, ibus) (1, iph) (2, pz)) s.freeUsed
    rw [setAll_orderOfThree _ _ _ _ _ _ zero_ne_one (Nat.zero_ne_add_one 1) (Nat.succ_ne_succ_iff.2 zero_ne_one),
      setAll_orderOfThree _ _ _ _ _ _ zero_ne_one (Nat.zero_ne_add_one 1) (Nat.succ_ne_succ_iff.2 zero_ne_one)] at acq
    exact ⟨acq, quiet⟩
  · have inOrder := foldl_takeSample_acq [(0, ibus), (1, iph), (2, pz)] s
    simp only [setAll, List.foldl] at inOrder
    exact inOrder

theorem checkFast_acq (s : State) (ibus iph pz : Nat) :
    (s.checkFast ibus iph pz).acq = (s.takeFast ibus iph pz).acq ∧ (s.checkFast ibus iph pz).quiet = s.quiet := by
  have quiet := (takeFast_acq s ibus iph pz).2
  unfold checkFast
  split
  · exact ⟨settled_acq _, (quiet_of_calm (settled_calm _)).trans quiet⟩
  · exact ⟨rfl, quiet⟩

/-! ### The dirt unit in a fast frame -/

theorem classify_eq (s : State) (d : Detector) : s.classify d = { s with dirt := (s.classify d).dirt } := by
  unfold classify; split
  · rfl
  · split <;> rfl

theorem detect_eq (s : State) (pz : Nat) : s.detect pz = { s with dirt := (s.detect pz).dirt } := by
  unfold detect; split
  · split <;> rfl
  · dsimp only; split
    · rfl
    · split
      · exact classify_eq s _
      · rfl

theorem dirtSample_eq (s : State) (v : Int) : s.dirtSample v = { s with dirt := (s.dirtSample v).dirt } := by
  unfold dirtSample; dsimp only; split
  · rfl
  · exact detect_eq _ _

theorem classify_dirt_of {s t : State} (dirt : t.dirt = s.dirt) (tables : t.tables = s.tables) (d : Detector) :
    (t.classify d).dirt = (s.classify d).dirt := by
  have bin : t.binOf d = s.binOf d := by
    unfold binOf meetsBin binPeak binDuration dirtField; rw [tables]
  unfold classify
  rw [dirt, bin]
  split
  · rfl
  · split <;> rfl

theorem detect_dirt_of {s t : State} (dirt : t.dirt = s.dirt) (tables : t.tables = s.tables) (pz : Nat) :
    (t.detect pz).dirt = (s.detect pz).dirt := by
  have field : ∀ i, t.dirtField i = s.dirtField i := fun i => by unfold dirtField; rw [tables]
  unfold detect withDetector
  rw [dirt, field]
  dsimp only
  split
  · split
    · rfl
    · exact dirt
  · split
    · rfl
    · split
      · exact classify_dirt_of dirt tables _
      · rfl

/-- The dirt unit's part of a sample reads the blanking, its own registers and the DIRT image alone. -/
theorem dirtSample_dirt_of {s t : State} (blanking : t.blanking = s.blanking) (dirt : t.dirt = s.dirt)
    (tables : t.tables = s.tables) (v : Int) : (t.dirtSample v).dirt = (s.dirtSample v).dirt := by
  have counted : ∀ b, (t.countSample b).dirt = (s.countSample b).dirt := fun b => by
    unfold countSample; rw [dirt]
  unfold dirtSample
  rw [blanking]
  dsimp only
  split
  · exact congrArg (fun d : Dirt => { d with det := Detector.quiet }) (counted true)
  · exact detect_dirt_of (counted false) tables _

theorem classify_winSamples (s : State) (d : Detector) : (s.classify d).dirt.winSamples = s.dirt.winSamples := by
  unfold classify; split
  · rfl
  · split <;> rfl

theorem detect_winSamples (s : State) (pz : Nat) : (s.detect pz).dirt.winSamples = s.dirt.winSamples := by
  unfold detect; split
  · split <;> rfl
  · dsimp only; split
    · rfl
    · split
      · exact classify_winSamples s _
      · rfl

theorem dirtSample_winSamples (s : State) (v : Int) : (s.dirtSample v).dirt.winSamples = s.dirt.winSamples + 1 := by
  unfold dirtSample; dsimp only; split
  · rfl
  · exact detect_winSamples _ _

end State
end Sys2Proof.Machine

namespace Sys2Proof.Machine
namespace State

/-- The accumulator with the latest IBUS value, and the slot's frames, one more. -/
def counted (a : Acq) : Acq :=
  { a with accSum := a.accSum + a.latest.getD 0 0, accCount := a.accCount + 1, slotFrames := a.slotFrames + 1 }

theorem accumulate_withAcq (s : State) (a : Acq) :
    ({ s with acq := a } : State).accumulate = { s with acq := counted a } := rfl

theorem awake_of_quiet {s t : State} (h : t.quiet = s.quiet) : t.awake = s.awake :=
  congrArg (fun c : Calm => c.power.state == .awake && !c.power.held) h

/-- A frame that is due, in AWAKE: checked, counted, and handed on. -/
theorem fastFrame_of_due {s : State} (due : s.frameDue = true) (ibus iph pz : Nat) :
    s.fastFrame ibus iph pz = ((s.checkFast ibus iph pz).accumulate).handFast := if_pos due

theorem handFast_of_awake {s : State} (awake : s.awake = true) :
    s.handFast = (s.driveFrame (s.acq.latest.getD 0 0)).dirtSample (s.acq.latest.getD 2 0) := if_pos awake

theorem handFast_acq (s : State) : s.handFast.acq = s.acq := by
  unfold handFast
  split
  · rw [dirtSample_eq, driveFrame_eq]
  · rfl

/-- The hand-over changes the drive and dirt units alone. -/
theorem handFast_eq (s : State) : s.handFast = { s with drive := s.handFast.drive, dirt := s.handFast.dirt } := by
  unfold handFast
  split
  · rw [dirtSample_eq, driveFrame_eq]
  · rfl

theorem blanking_of_sT {s : State} {d : Drive} (h : d.sT = s.drive.sT) :
    ({ s with drive := d } : State).blanking = s.blanking := by
  unfold blanking rampBusy
  rw [h]
  rfl

/-- The hand-over of a frame that changes nothing else: the drive and dirt units work on the state before it. -/
theorem handFast_withAcq {s : State} (a : Acq) (awake : s.awake = true) :
    ({ s with acq := a } : State).handFast.drive = (s.driveFrame (a.latest.getD 0 0)).drive ∧
    ({ s with acq := a } : State).handFast.dirt = (s.dirtSample (a.latest.getD 2 0)).dirt := by
  have awake' : ({ s with acq := a } : State).awake = true := awake
  have handed : ({ s with acq := a } : State).handFast =
      (({ s with acq := a } : State).driveFrame (a.latest.getD 0 0)).dirtSample (a.latest.getD 2 0) := if_pos awake'
  rw [handed]
  refine ⟨?_, ?_⟩
  · rw [dirtSample_eq, driveFrame_eq, driveFrame_eq]
    exact framedDrive_withAcq s a _
  · rw [driveFrame_eq]
    have blanking := blanking_of_sT (framedDrive_sT ({ s with acq := a } : State) (a.latest.getD 0 0))
    exact dirtSample_dirt_of (s := s) blanking rfl rfl _

end State
end Sys2Proof.Machine

namespace Sys2Proof.Proofs

open Sys2Proof.Machine

/-- Settles O6: the three samples have their places in either order; what a changed condition brings about and the
hand-over leave the rest. -/
theorem fastFrameTaken : Obligations.FastFrameTaken := by
  intro s ibus iph pz due
  refine ⟨_, rfl, ?_⟩
  rw [State.fastFrame_of_due due]
  obtain ⟨sampled, _⟩ := State.takeFast_acq s ibus iph pz
  obtain ⟨checked, quiet⟩ := State.checkFast_acq s ibus iph pz
  have samples : State.samples (s.checkFast ibus iph pz).acq = _ := (congrArg State.samples checked).trans sampled
  have awake : (s.checkFast ibus iph pz).accumulate.awake = s.awake := State.awake_of_quiet quiet
  have handed := State.handFast_eq (s.checkFast ibus iph pz).accumulate
  have acq := State.handFast_acq (s.checkFast ibus iph pz).accumulate
  refine ⟨?_, ?_, ?_, ?_, ?_, ?_, ?_, ?_, ?_, ?_, ?_, ?_, ?_, ?_, ?_, ?_, ?_, ?_, ?_, ?_⟩
  · rw [acq]; exact State.samples_latest samples
  · rw [acq]; exact (congrArg Acq.sat samples :)
  · rw [acq]; exact congrArg (· + _) (congrArg Acq.accSum samples :)
  · rw [acq]; exact congrArg (· + 1) (congrArg Acq.accCount samples :)
  · rw [acq]; exact congrArg (· + 1) (congrArg Acq.slotFrames samples :)
  · rw [acq]; exact (congrArg Acq.slotIndex samples :)
  · rw [acq]; exact (congrArg Acq.lastSet samples :)
  · rw [acq]; exact (congrArg Acq.lastGood samples :)
  · rw [acq]; exact (congrArg Acq.scanVals samples :)
  · rw [handed]; exact congrArg (·.modem) quiet
  · rw [handed]; exact congrArg (·.pending) quiet
  · rw [handed]; exact congrArg (·.plan.mode) quiet
  · rw [handed]; exact congrArg (·.pack.v) quiet
  · rw [handed]; exact congrArg (·.pack.budget) quiet
  · rw [handed]; exact congrArg (·.charge.presence) quiet
  · rw [handed]; exact congrArg (·.frame.chSlot) quiet
  · rw [handed]; exact congrArg (·.power.state) quiet
  · rw [acq]
    unfold State.handFast
    rw [awake]
    rfl
  · intro on
    rw [State.handFast_of_awake (awake.trans on), State.dirtSample_winSamples, State.driveFrame_eq]
    exact congrArg (· + 1) (congrArg (·.dirt.winSamples) quiet :)
  · intro same
    obtain ⟨a, alone⟩ := State.takeFast_of_same same
    have unchanged : s.checkFast ibus iph pz = { s with acq := a } :=
      (if_neg (Bool.eq_false_iff.1 same)).trans alone
    have counted : (s.checkFast ibus iph pz).accumulate = { s with acq := State.counted a } := by
      rw [unchanged, State.accumulate_withAcq]
    rw [counted]
    generalize State.counted a = b
    rw [State.handFast_eq]
    refine ⟨rfl, rfl, rfl, rfl, rfl, rfl, rfl, rfl, fun on => ?_, fun off => ?_⟩
    · exact State.handFast_withAcq b on
    · have asleep : ({ s with acq := b } : State).handFast = { s with acq := b } :=
        if_neg (Bool.eq_false_iff.1 off)
      rw [asleep]
      exact ⟨rfl, rfl⟩

end Sys2Proof.Proofs

/-! The end of a slot and the limits of its channel (01 R2, R5 to R8). -/

namespace Sys2Proof.Machine
namespace State

/-! ### The kinds that a channel may name -/

theorem kindNum_of_channelKind? {n : Nat} {k : CauseKind} (h : channelKind? n = some k) :
    n = kindNum k ∧ k ∈ channelKinds := by
  unfold channelKind? at h
  split at h <;> simp_all [channelKinds] <;> subst h <;> simp [kindNum]

/-! ### The end of a slot -/

theorem slotEnd_of_due {s : State} (due : s.slotDue = true) (raw : Nat) :
    s.slotEnd raw = { s.checkSlow (s.slotChannel (s.acq.slotIndex + 1)) raw with
      acq := (s.checkSlow (s.slotChannel (s.acq.slotIndex + 1)) raw).acq.recordSlot
        (s.slotChannel (s.acq.slotIndex + 1)) (convert (s.channelEntry (s.slotChannel (s.acq.slotIndex + 1))) raw)
        (saturated raw) } := if_pos due

theorem checkSlow_acq (s : State) (ch raw : Nat) :
    samples (s.checkSlow ch raw).acq = samples { s.acq with
      latest := s.acq.latest.set ch (convert (s.channelEntry ch) raw), sat := s.acq.sat.set ch (saturated raw) } ∧
    (s.checkSlow ch raw).quiet = s.quiet := by
  obtain ⟨acq, quiet⟩ := takeSample_acq s ch raw
  unfold checkSlow
  split
  · exact ⟨(congrArg samples (settled_acq _)).trans acq, (quiet_of_calm (settled_calm _)).trans quiet⟩
  · exact ⟨acq, quiet⟩

theorem checkSlow_scan (s : State) (ch raw : Nat) :
    (s.checkSlow ch raw).acq.scanVals = s.acq.scanVals ∧ (s.checkSlow ch raw).acq.lastGood = s.acq.lastGood ∧
    (s.checkSlow ch raw).acq.scanSat = s.acq.scanSat := by
  have acq := (checkSlow_acq s ch raw).1
  exact ⟨(congrArg Acq.scanVals acq :), (congrArg Acq.lastGood acq :), (congrArg Acq.scanSat acq :)⟩

/-- A cell's unsaturated value is kept. -/
theorem recordSlot_lastGood (a : Acq) (ch : Nat) (v : Int) (sat : Bool) :
    (a.recordSlot ch v sat).lastGood =
      if 5 ≤ ch ∧ ch ≤ 11 ∧ sat = false then a.lastGood.set (ch - 5) v else a.lastGood := by
  cases sat <;> simp [Acq.recordSlot]

/-- A cell's saturated value leaves its mark. -/
theorem recordSlot_scanSat (a : Acq) (ch : Nat) (v : Int) (sat : Bool) :
    (a.recordSlot ch v sat).scanSat =
      if 5 ≤ ch ∧ ch ≤ 11 ∧ sat = true then a.scanSat.set (ch - 5) true else a.scanSat := by
  cases sat <;> simp [Acq.recordSlot]

/-! ### One side -/

variable {s : State} {ch : Nat} {high : Bool} {v : Int} {k : CauseKind}

theorem beyond_iff : s.beyond ch high v = true ↔
    (high = true ∧ s.channelField ch 4 < v) ∨ (high = false ∧ v < s.channelField ch 3) := by
  cases high <;> simp [beyond]

theorem checkSide_beyond (kind : channelKind? (s.sideCause ch high) = some k) (past : s.beyond ch high v = true) :
    s.checkSide ch high v =
      let u := s.setSide ch high (min (s.debounce ch) (s.sideCount ch high + 1))
        (s.sideOn ch high || decide (s.debounce ch ≤ s.sideCount ch high + 1))
      if s.sideOn ch high = false ∧ s.debounce ch ≤ s.sideCount ch high + 1 then u.raise k ch else u := by
  have reached : decide (s.debounce ch ≤ min (s.debounce ch) (s.sideCount ch high + 1)) =
      decide (s.debounce ch ≤ s.sideCount ch high + 1) := by
    rw [decide_eq_decide, Nat.le_min]
    exact and_iff_right (le_refl _)
  unfold checkSide
  rw [kind]
  dsimp only
  rw [if_pos past, reached]
  cases s.sideOn ch high <;> simp

theorem checkSide_within (kind : channelKind? (s.sideCause ch high) = some k) (past : s.beyond ch high v = false) :
    s.checkSide ch high v =
      if s.sideOn ch high then (s.setSide ch high 0 false).endUnheld k else s.setSide ch high 0 false := by
  unfold checkSide
  rw [kind]
  dsimp only
  rw [past, if_neg Bool.false_ne_true]

/-- A kind is held by a side of one of the 16 channels that names it. -/
theorem sideHolds_iff : s.sideHolds k = true ↔
    ∃ c h, c < 16 ∧ s.sideOn c h = true ∧ s.sideCause c h = kindNum k := by
  simp only [sideHolds, List.any_eq_true, List.mem_range, Bool.or_eq_true, Bool.and_eq_true, beq_iff_eq]
  constructor
  · rintro ⟨c, hc, low | high⟩
    · exact ⟨c, false, hc, low⟩
    · exact ⟨c, true, hc, high⟩
  · rintro ⟨c, h, hc, on⟩
    cases h
    · exact ⟨c, hc, .inl on⟩
    · exact ⟨c, hc, .inr on⟩

theorem sideCount_of_acq {t : State} (h : t.acq = s.acq) (c : Nat) (x : Bool) : t.sideCount c x = s.sideCount c x := by
  unfold sideCount; rw [h]

theorem sideOn_of_acq {t : State} (h : t.acq = s.acq) (c : Nat) (x : Bool) : t.sideOn c x = s.sideOn c x := by
  unfold sideOn; rw [h]

/-- Onset and end of the kind leave the sides as they have been set. -/
theorem checkSide_acq (kind : channelKind? (s.sideCause ch high) = some k) :
    (s.checkSide ch high v).acq =
      (s.setSide ch high (if s.beyond ch high v then min (s.debounce ch) (s.sideCount ch high + 1) else 0)
        (if s.beyond ch high v then s.sideOn ch high || decide (s.debounce ch ≤ s.sideCount ch high + 1)
          else false)).acq := by
  cases past : s.beyond ch high v with
  | true =>
    rw [checkSide_beyond kind past]
    dsimp only
    split
    · exact raise_acq _ _ _
    · rfl
  | false =>
    rw [checkSide_within kind past]
    split
    · exact Calm.acq_eq (endUnheld_calm _ _)
    · rfl

theorem setSide_sideCount (s : State) (high : Bool) (n : Nat) (on : Bool) (low : ch < s.acq.lowCount.length)
    (up : ch < s.acq.highCount.length) : (s.setSide ch high n on).sideCount ch high = n := by
  cases high
  · exact getD_set_eq _ _ _ _ low
  · exact getD_set_eq _ _ _ _ up

theorem setSide_sideOn (s : State) (high : Bool) (n : Nat) (on : Bool) (low : ch < s.acq.lowOn.length)
    (up : ch < s.acq.highOn.length) : (s.setSide ch high n on).sideOn ch high = on := by
  cases high
  · exact getD_set_eq _ _ _ _ low
  · exact getD_set_eq _ _ _ _ up

theorem setSide_other (s : State) (ch : Nat) (high : Bool) (n : Nat) (on : Bool) :
    (s.setSide ch high n on).sideCount ch (!high) = s.sideCount ch (!high) := by cases high <;> rfl

theorem setSide_latest (s : State) (ch : Nat) (high : Bool) (n : Nat) (on : Bool) :
    (s.setSide ch high n on).acq.latest = s.acq.latest := by cases high <;> rfl

theorem setSide_sideCause (s : State) (ch : Nat) (high : Bool) (n : Nat) (on : Bool) (c : Nat) (h : Bool) :
    (s.setSide ch high n on).sideCause c h = s.sideCause c h := by cases high <;> rfl

/-- Beyond the limit a side can only become present, with the kind's onset. -/
theorem checkSide_turns_beyond (kind : channelKind? (s.sideCause ch high) = some k) (past : s.beyond ch high v = true) :
    let on := if true = true then s.sideOn ch high || decide (s.debounce ch ≤ s.sideCount ch high + 1) else false
    let u := s.setSide ch high (if true = true then min (s.debounce ch) (s.sideCount ch high + 1) else 0) on
    (on = s.sideOn ch high → s.checkSide ch high v = u) ∧
    (s.sideOn ch high = false → on = true → s.checkSide ch high v = u.raise k ch) ∧
    (s.sideOn ch high = true → on = false →
      ((∃ c h, c < 16 ∧ u.sideOn c h = true ∧ s.sideCause c h = kindNum k) → s.checkSide ch high v = u) ∧
      ((∀ c h, c < 16 → u.sideOn c h = true → s.sideCause c h ≠ kindNum k) →
        s.checkSide ch high v = u.endCond k)) := by
  simp only [if_true]
  rw [checkSide_beyond kind past]
  dsimp only
  refine ⟨fun same => ?_, fun off on => ?_, fun on off => ?_⟩
  · refine if_neg fun turns => ?_
    rw [turns.1, decide_eq_true turns.2] at same
    cases same
  · rw [off, Bool.false_or] at on
    exact if_pos ⟨off, of_decide_eq_true on⟩
  · rw [on, Bool.true_or] at off
    cases off

/-- Within the limit a side is absent, and the kind ends with its last side. -/
theorem checkSide_turns_within (kind : channelKind? (s.sideCause ch high) = some k) (past : s.beyond ch high v = false) :
    let on := if false = true then s.sideOn ch high || decide (s.debounce ch ≤ s.sideCount ch high + 1) else false
    let u := s.setSide ch high (if false = true then min (s.debounce ch) (s.sideCount ch high + 1) else 0) on
    (on = s.sideOn ch high → s.checkSide ch high v = u) ∧
    (s.sideOn ch high = false → on = true → s.checkSide ch high v = u.raise k ch) ∧
    (s.sideOn ch high = true → on = false →
      ((∃ c h, c < 16 ∧ u.sideOn c h = true ∧ s.sideCause c h = kindNum k) → s.checkSide ch high v = u) ∧
      ((∀ c h, c < 16 → u.sideOn c h = true → s.sideCause c h ≠ kindNum k) →
        s.checkSide ch high v = u.endCond k)) := by
  simp only [Bool.false_eq_true, if_false]
  rw [checkSide_within kind past]
  refine ⟨fun same => if_neg (by rw [← same]; exact Bool.false_ne_true), fun _ on => on.elim, fun on _ => ?_⟩
  rw [if_pos on]
  refine ⟨fun ⟨c, h, hc, held, names⟩ => if_pos (sideHolds_iff.2 ⟨c, h, hc, held, ?_⟩), fun none => if_neg fun held => ?_⟩
  · rw [setSide_sideCause]; exact names
  · obtain ⟨c, h, hc, held, names⟩ := sideHolds_iff.1 held
    rw [setSide_sideCause] at names
    exact none c h hc held names

/-! ### SAMPLE_SATURATED (01 R5) -/

/-- SAMPLE_SATURATED is present exactly while a saturation flag is set; there is one flag for each kind. -/
def SatAgrees (s : State) : Prop :=
  s.cause.present.length = 16 ∧ (s.cond .sampleSaturated = true ↔ true ∈ s.acq.sat)

theorem SatAgrees.of_sameCond {t : State} {ks : List CauseKind} (h : s.SatAgrees) (sat : t.acq.sat = s.acq.sat)
    (cond : SameCond ks s t) (other : .sampleSaturated ∉ ks) : t.SatAgrees := by
  obtain ⟨length, same⟩ := cond
  exact ⟨length.trans h.1, by rw [same _ other, sat]; exact h.2⟩

/-- An onset that its own stop does not end stands. -/
theorem raise_self (s : State) (k : CauseKind) (d : Nat) (oc : k ≠ .overcurrent) (stays : k ∉ tripEnds)
    (info : isInfo k = false) (length : s.cause.present.length = 16) : (s.raise k d).cond k = true := by
  unfold State.raise
  split
  · assumption
  · have set : ((s.setCond k true).occur k d 0).cond k = true :=
      setCond_self s k info (length ▸ cond_kinds k info)
    dsimp only
    split
    · exact ((setTrip_cond _).2 k stays).trans set
    · exact set

/-- A channel's value and saturation flag replaced (01 R4, R5). -/
def stored (s : State) (ch : Nat) (v : Int) (b : Bool) : State :=
  { s with acq := { s.acq with latest := s.acq.latest.set ch v, sat := s.acq.sat.set ch b } }

theorem storeSample_of_iff {b : Bool} (h : true ∈ (s.stored ch v b).acq.sat ↔ true ∈ s.acq.sat) :
    s.storeSample ch v b = s.stored ch v b :=
  if_pos (Bool.eq_iff_iff.2 (by rw [anyMark_iff, anyMark_iff]; exact h))

theorem storeSample_of_first {b : Bool} (before : true ∉ s.acq.sat) (after : true ∈ (s.stored ch v b).acq.sat) :
    s.storeSample ch v b = (s.stored ch v b).raise .sampleSaturated ch := by
  have any : anyMark (s.stored ch v b).acq.sat = true := (anyMark_iff _).2 after
  exact (if_neg fun same => before ((anyMark_iff _).1 (Eq.trans (Eq.symm same) any))).trans (if_pos any)

theorem storeSample_of_last {b : Bool} (before : true ∈ s.acq.sat) (after : true ∉ (s.stored ch v b).acq.sat) :
    s.storeSample ch v b = (s.stored ch v b).endCond .sampleSaturated := by
  have none : ¬ anyMark (s.stored ch v b).acq.sat = true := fun any => after ((anyMark_iff _).1 any)
  exact (if_neg fun same => none (same.trans ((anyMark_iff _).2 before))).trans (if_neg none)

theorem SatAgrees.storeSample (h : s.SatAgrees) (ch : Nat) (v : Int) (b : Bool) : (s.storeSample ch v b).SatAgrees := by
  obtain ⟨length, agrees⟩ := h
  by_cases before : true ∈ s.acq.sat <;> by_cases after : true ∈ (s.stored ch v b).acq.sat
  · rw [storeSample_of_iff (iff_of_true after before)]
    exact ⟨length, agrees.trans (iff_of_true before after)⟩
  · rw [storeSample_of_last before after]
    refine ⟨(endCond_cond _ _).1.trans length, ?_⟩
    rw [endCond_self, endCond_acq]
    exact iff_of_false Bool.false_ne_true after
  · rw [storeSample_of_first before after]
    refine ⟨(raise_cond _ _ _).1.trans length, ?_⟩
    have raised : ((s.stored ch v b).raise .sampleSaturated ch).cond .sampleSaturated = true :=
      raise_self _ _ _ (by decide) (by decide) rfl length
    rw [raise_acq]
    exact iff_of_true raised after
  · rw [storeSample_of_iff (iff_of_false after before)]
    exact ⟨length, agrees.trans (iff_of_false before after)⟩

theorem checkSide_cond (s : State) (ch : Nat) (high : Bool) (v : Int) :
    SameCond (channelKinds ++ tripEnds) s (s.checkSide ch high v) := by
  have set : ∀ n on, SameCond (channelKinds ++ tripEnds) s (s.setSide ch high n on) := fun n on =>
    .of_eq (by cases high <;> rfl)
  cases kind : channelKind? (s.sideCause ch high) with
  | none =>
    unfold checkSide
    rw [kind]
    exact .refl _ _
  | some k =>
    have member := (kindNum_of_channelKind? kind).2
    cases past : s.beyond ch high v with
    | true =>
      rw [checkSide_beyond kind past]
      dsimp only
      split
      · exact (set _ _).trans ((raise_cond _ _ _).mono fun j hj => by
          rcases List.mem_cons.1 hj with rfl | hj
          · exact List.mem_append_left _ member
          · exact List.mem_append_right _ hj)
      · exact set _ _
    | false =>
      rw [checkSide_within kind past]
      split
      · have unheld : SameCond (channelKinds ++ tripEnds) (s.setSide ch high 0 false)
            ((s.setSide ch high 0 false).endUnheld k) := by
          unfold endUnheld
          split
          · exact .refl _ _
          · exact (endCond_cond _ _).mono fun j hj => by
              rw [List.mem_singleton.1 hj]; exact List.mem_append_left _ member
        exact (set _ _).trans unheld
      · exact set _ _

theorem SatAgrees.checkSide (h : s.SatAgrees) (ch : Nat) (high : Bool) (v : Int) : (s.checkSide ch high v).SatAgrees :=
  h.of_sameCond (congrArg Acq.sat (checkSide_samples s ch high v).1 :) (checkSide_cond s ch high v) (by decide)

theorem SatAgrees.checkSides (h : s.SatAgrees) (ch : Nat) (v : Int) : (s.checkSides ch v).SatAgrees := by
  have used : s.freeUsed.SatAgrees := h
  unfold State.checkSides
  split
  · split
    · exact (used.checkSide ..).checkSide ..
    · exact (used.checkSide ..).checkSide ..
  · exact (h.checkSide ..).checkSide ..

theorem SatAgrees.takeSample (h : s.SatAgrees) (ch raw : Nat) : (s.takeSample ch raw).SatAgrees :=
  (h.storeSample ..).checkSides ..

theorem SatAgrees.settled (h : s.SatAgrees) : s.settled.SatAgrees :=
  h.of_sameCond (congrArg Acq.sat (settled_acq s)) (settled_cond s) (by decide)

theorem SatAgrees.takeFast (h : s.SatAgrees) (ibus iph pz : Nat) : (s.takeFast ibus iph pz).SatAgrees := by
  have all : ∀ (ps : List (Nat × Nat)) (t : State), t.SatAgrees →
      (ps.foldl (fun t p => t.takeSample p.1 p.2) t).SatAgrees := by
    intro ps
    induction ps with
    | nil => exact fun _ h => h
    | cons p ps ih => exact fun t h => ih _ (h.takeSample ..)
  unfold State.takeFast
  dsimp only
  split
  · exact all _ _ h
  · exact ((h.takeSample ..).takeSample ..).takeSample ..

theorem SatAgrees.slotEnd (h : s.SatAgrees) (raw : Nat) : (s.slotEnd raw).SatAgrees := by
  cases due : s.slotDue with
  | false => rwa [slotEnd_of_notDue raw due]
  | true =>
    have checked : (s.checkSlow (s.slotChannel (s.acq.slotIndex + 1)) raw).SatAgrees := by
      unfold checkSlow
      split
      · exact (h.takeSample ..).settled
      · exact h.takeSample ..
    rw [slotEnd_of_due due]
    exact checked

theorem SatAgrees.fastFrame (h : s.SatAgrees) (ibus iph pz : Nat) : (s.fastFrame ibus iph pz).SatAgrees := by
  cases due : s.frameDue with
  | false => rwa [fastFrame_of_notDue ibus iph pz due]
  | true =>
    have checked : (s.checkFast ibus iph pz).SatAgrees := by
      unfold checkFast
      split
      · exact (h.takeFast ..).settled
      · exact h.takeFast ..
    rw [fastFrame_of_due due, handFast_eq]
    exact checked

end State
end Sys2Proof.Machine

namespace Sys2Proof.Proofs

open Sys2Proof.Machine

/-- Settles O7: the slot's own places, one side by its limit, the flag of SAMPLE_SATURATED by the channels' flags, and
that agreement over every sample. -/
theorem slotsAndLimits : Obligations.SlotsAndLimits := by
  refine ⟨fun s raw due => ⟨_, rfl, ?_⟩, fun s ch high v k kind low up lowOn upOn => ?_, fun s ch v b => ?_,
    fun s length agrees => ⟨fun raw t run => ?_, fun ibus iph pz t run => ?_⟩⟩
  · rw [State.slotEnd_of_due due]
    obtain ⟨acq, quiet⟩ := State.checkSlow_acq s (s.slotChannel (s.acq.slotIndex + 1)) raw
    obtain ⟨vals, good, marks⟩ := State.checkSlow_scan s (s.slotChannel (s.acq.slotIndex + 1)) raw
    refine ⟨⟨State.samples_latest acq, (congrArg Acq.sat acq :), ?_, ?_, ?_⟩, ?_, rfl, (congrArg Acq.accSum acq :),
      (congrArg Acq.accCount acq :), (congrArg Acq.lastSet acq :), congrArg (·.modem) quiet, congrArg (·.pending) quiet,
      congrArg (·.dirt.level) quiet, congrArg (·.pack.v) quiet, congrArg (·.charge.presence) quiet,
      congrArg (·.frame.chSlot) quiet, congrArg (·.power.state) quiet⟩
    · rw [← vals]; rfl
    · rw [State.recordSlot_lastGood, good]
    · rw [State.recordSlot_scanSat, marks]
    · exact congrArg (· + 1) (congrArg Acq.slotIndex acq :)
  · have acq := State.checkSide_acq (v := v) kind
    have count := State.sideCount_of_acq acq
    have sides := State.sideOn_of_acq acq
    dsimp only
    simp only [← State.beyond_iff]
    refine ⟨(count _ _).trans (State.setSide_sideCount s high _ _ low up),
      (sides _ _).trans (State.setSide_sideOn s high _ _ lowOn upOn),
      (count _ _).trans (State.setSide_other ..), (congrArg Acq.latest acq).trans (State.setSide_latest ..), ?_⟩
    cases past : s.beyond ch high v with
    | true => exact State.checkSide_turns_beyond kind past
    | false => exact State.checkSide_turns_within kind past
  · exact ⟨State.storeSample_of_iff, State.storeSample_of_first, State.storeSample_of_last⟩
  · cases run
    exact (State.SatAgrees.slotEnd ⟨length, agrees⟩ raw).2
  · cases run
    exact (State.SatAgrees.fastFrame ⟨length, agrees⟩ ibus iph pz).2

end Sys2Proof.Proofs
